-- ==== Sys2Proof/Word.lean ====
section
/-! DEFINITION. The widths of the block's values, under the names 00_scope.md and 10_state.md give them. -/

namespace Sys2Proof

/-- A byte: a frame-buffer byte, a CRC value, an 8-bit input (R22, R24, R36). -/
abbrev Byte := BitVec 8

/-- One channel value: 11 bits, unsigned (R21, 90_conflicts.md C3). -/
abbrev Chan := BitVec 11

/-- A 16-bit analog reading (R36). -/
abbrev Reading := BitVec 16

/-- The sixteen channel values, index 0 first (R21). -/
abbrev Channels := Vector Chan 16

/-- The 22 packed payload bytes of a frame (R73, R103). -/
abbrev Payload := Vector Byte 22

/-- The 26 bytes of a frame, byte 0 first on the wire (R22, R44, R73). -/
abbrev Frame := Vector Byte 26

/-- The command code `cmd[3:0]` (R59). -/
abbrev Code := BitVec 4

/-- The operand bus `opnd[175:0]` (R59). -/
abbrev Operand := BitVec 176

/-- The result bus `res[207:0]` (R34, R71). -/
abbrev Result := BitVec 208

end Sys2Proof
end

