-- ==== Sys2Proof/Machine/Bits.lean ====
section
/-! DEFINITION. The one layout by which the block lays equal fields on a bus: field `i` of width `w` at bits
`[w·i + w - 1 : w·i]` (R12). Channel vectors (`w = 11`) and byte sequences (`w = 8`) both use it. -/

namespace Sys2Proof.Machine

/-- `Σ x[i] · 2^(w·i)` over the fields of a list, in Horner's form (R102). -/
def fieldSum {w : Nat} : List (BitVec w) → Nat
  | [] => 0
  | x :: xs => x.toNat + 2 ^ w * fieldSum xs

/-- The bus that carries `n` fields of `w` bits (R12, R102). -/
def joinFields {w n : Nat} (v : Vector (BitVec w) n) : BitVec (w * n) :=
  BitVec.ofNat (w * n) (fieldSum v.toList)

/-- The `n` fields of `w` bits that a bus carries (R12, R108). -/
def splitFields (w n : Nat) (bus : BitVec (w * n)) : Vector (BitVec w) n :=
  Vector.ofFn fun i => bus.extractLsb' (w * i) w

/-- The 176-bit bus of a channel vector: `P` of R102, `st_ch` of R31, the layout of format FV. -/
def channelBus (c : Channels) : BitVec 176 := joinFields c

/-- The 176-bit bus of a payload: `Q` of R108, the layout of format FP. -/
def payloadBus (p : Payload) : BitVec 176 := joinFields p

/-- The 208-bit bus of a frame: `tx_data` of R37. -/
def frameBus (f : Frame) : BitVec 208 := joinFields f

/-- The channel vector a 176-bit bus carries (R12). -/
def busChannels (bus : BitVec 176) : Channels := splitFields 11 16 bus

/-- The payload bytes a 176-bit bus carries (R12, R103). -/
def busPayload (bus : BitVec 176) : Payload := splitFields 8 22 bus

end Sys2Proof.Machine
end

