-- ==== Sys2Proof/Config.lean ====
section
/-! DEFINITION. What is fixed before the block runs: the constants of R8, the parameters of R9, and the two values
the spec leaves open (which button arms; the rudder channel outside its range). -/

namespace Sys2Proof

/-- `RESCHED_SAMPLE` (R9, D14): which clock sample the reschedule of an emitting TICK uses. -/
inductive ReschedSample where
  /-- the `now` sampled when the TICK was accepted -/
  | atCheck
  /-- the `now` sampled when the transport accepts the frame -/
  | afterTx
deriving DecidableEq, Repr

/-- The parameters of R9. They are fixed when the block is built and no command changes them (R29). -/
structure Params where
  /-- `TIME_W`, the width of the clock and of `next_time` (D12) -/
  timeW : Nat
  /-- `ARM_BTN`, the button that arms (D9) -/
  armBtn : Fin 4
  /-- `RUDDER_MIN` (D10) -/
  rudderMin : Reading
  /-- `RUDDER_MAX` (D10) -/
  rudderMax : Reading
  /-- `RESCHED_SAMPLE` (D14) -/
  resched : ReschedSample
deriving DecidableEq, Repr

/-- The ranges of R9: `TIME_W ≥ 32` and `RUDDER_MIN < RUDDER_MAX`. -/
abbrev Params.Legal (p : Params) : Prop :=
  32 ≤ p.timeW ∧ p.rudderMin.toNat < p.rudderMax.toNat

/-- The rudder parameters of R9: the full 16-bit range. -/
abbrev Params.FullRudder (p : Params) : Prop :=
  p.rudderMin = 0 ∧ p.rudderMax = 65535

namespace Config

/-- `N_CH`: channels per frame (R8). -/
def nCh : Nat := 16
/-- `CH_W`: bits per channel value (R8). -/
def chW : Nat := 11
/-- `CH_MIN`: protocol channel minimum (R8). -/
def chMin : Nat := 172
/-- `CH_MID`: protocol channel centre (R8). -/
def chMid : Nat := 991
/-- `CH_MAX`: protocol channel maximum (R8). -/
def chMax : Nat := 1811
/-- `FRAME_LEN`: bytes per frame (R8). -/
def frameLen : Nat := 26
/-- `PAYLOAD_LEN`: packed payload bytes (R8). -/
def payloadLen : Nat := 22
/-- `ADDR_BYTE`: frame byte 0 (R8, R104). -/
def addrByte : Byte := 0xEE
/-- `LEN_BYTE`: frame byte 1 (R8, R104). -/
def lenByte : Byte := 24
/-- `TYPE_BYTE`: frame byte 2 (R8, R104). -/
def typeByte : Byte := 0x16
/-- `CRC_POLY`: the generator polynomial, its top bit implicit (R8, R77). -/
def crcPoly : Byte := 0xD5
/-- `CRC_INIT`: the running value at the start of a frame (R8, R77). -/
def crcInit : Byte := 0x00
/-- `INTERVAL`: the pacer interval in microseconds (R8, R120). -/
def interval : Nat := 4000
/-- `BAUD`: the transport's line rate; informative, no rule of the block reads it (R8). -/
def baud : Nat := 400000
/-- `PEDAL_MAX`: the maximum sentinel of the pedal readings (R8, D11). -/
def pedalMax : Nat := 65535

/-- FREE VALUE (R9 and D9: `ARM_BTN` is OPEN; log 2): the arming button of the block `State.reset` describes.
No body, so nothing can be proved of which button it is. -/
opaque armBtn : Fin 4

/-- FREE VALUE (U3, R91; log 7): the `k`-th value an unspecified rudder channel takes. No body: any 11-bit value. -/
opaque freeChannel : Nat → Chan

/-- The parameters of the block `State.reset` describes: the values R9 gives in its column "value in this spec",
and the open `armBtn` (log 2). -/
def params : Params where
  timeW := 64
  armBtn := armBtn
  rudderMin := 0
  rudderMax := 65535
  resched := .atCheck

end Config

end Sys2Proof
end

