-- ==== Sys2Proof/Machine/State.lean ====
section
/-! DEFINITION. The state of the block (R20), the values on its ports (R33 to R38), its parameters (R9), and what a
run shows (R157); the reasons a step can stop; and the state after reset (R144). -/

namespace Sys2Proof.Machine

/-- The pacer phase (R25, R113). `emit t` is the phase EMIT; `t` is the clock sample the TICK in progress took at its
acceptance (R114), which R120 and R157 read when the transport accepts (log 4). -/
inductive Phase where
  | idle
  | emit (t : Nat)
deriving DecidableEq, Repr

/-- `rsp_status` (R72). Code 3 is never produced, so it has no name. -/
inductive Status where
  | ok
  | illegalCmd
  | domain
deriving DecidableEq, Repr

/-- What `Respond(status, res)` presents (R72). -/
structure Response where
  status : Status
  res : Result
deriving DecidableEq, Repr

/-- `snap`: the input snapshot ports other than `in_present` (R36). -/
structure Snapshot where
  roll : Byte
  pitch : Byte
  aux0 : Byte
  aux1 : Byte
  btn : Vector Byte 4
  rudder : Reading
  throttle : Reading
  brake : Reading
deriving DecidableEq, Repr

/-- The values on every input port at one moment (R33, R35 to R38). -/
structure Inputs where
  /-- `rst`, active high, level-sensitive (R38) -/
  rst : Bool
  /-- `cmd_valid` (R33) -/
  cmdValid : Bool
  /-- `cmd` (R33, R61) -/
  cmd : Code
  /-- `opnd` (R33) -/
  opnd : Operand
  /-- what the host drives on `now` (R35); the port carries its low `TIME_W` bits (log 3) -/
  now : Nat
  /-- `in_present` (R36) -/
  inPresent : Bool
  /-- the snapshot ports (R36) -/
  snap : Snapshot
  /-- `tx_ready` (R37) -/
  txReady : Bool
deriving DecidableEq, Repr

/-- A transferred frame, with the clock sample `t` of its TICK (R157 (1)). -/
structure Transfer where
  t : Nat
  frame : Frame
deriving DecidableEq, Repr

structure State where
  /-- `ch[0..15]` (R21) -/
  ch : Channels
  /-- `FB[0..25]` (R22) -/
  fb : Frame
  /-- `next_time` (R23), below `2^TIME_W` (log 3) -/
  nextTime : Nat
  /-- `phase` (R25) -/
  phase : Phase
  /-- `busy` (R33, R60) -/
  busy : Bool
  /-- the response port (R34): the response presented since the last step, if any -/
  rsp : Option Response
  /-- the values now on the input ports (log 1) -/
  inp : Inputs
  /-- the values the host will put on the input ports, one entry a step (log 1) -/
  upcoming : List Inputs
  /-- the parameters this block was built with (R9, R29; log 2) -/
  par : Params
  /-- the frames transferred so far, newest first (R157 (1); log 6) -/
  sent : List Transfer
  /-- the responses given so far, newest first (R157 (2); log 6) -/
  responses : List Response
  /-- how many free values have been taken: the model's own counter (U3; log 7) -/
  drawn : Nat
deriving DecidableEq, Repr

/-- Why a step would stop the machine. EMPTY: the spec has no trap, exception or stop (R129, R136; R157 "The block
never stops by itself"); its two errors are responses (R130). Nothing raises a fault, which is safe: no state is lost. -/
inductive Fault where
deriving DecidableEq, Repr

/-- Why a command would have no meaning. -/
inductive Refusal where
  /-- An instruction that has no meaning yet, by its mnemonic; raised by an arm of `exec` only, and by none now. Safe. -/
  | notModelled (mnemonic : String)
deriving DecidableEq, Repr

/-- A snapshot of zeros (R75: before the first `@` line every field is 0). -/
def Snapshot.zero : Snapshot where
  roll := 0
  pitch := 0
  aux0 := 0
  aux1 := 0
  btn := Vector.replicate 4 0
  rudder := 0
  throttle := 0
  brake := 0

/-- The input ports right after reset (log 5): `rst` released, no command presented, the clock and snapshot ports 0
(R75), the transport ready (R147 (1)). -/
def Inputs.atReset : Inputs where
  rst := false
  cmdValid := false
  cmd := 0
  opnd := 0
  now := 0
  inPresent := false
  snap := Snapshot.zero
  txReady := true

/-- `ch` after reset: 991 in every register (R21, R144). -/
def resetChannels : Channels := Vector.replicate 16 (BitVec.ofNat 11 Config.chMid)

/-- `FB` after reset: `0x00` in every byte (R22, R144). -/
def resetFrame : Frame := Vector.replicate 26 0x00

/-- The machine right after reset (R144): the block's five pieces of state at their reset values, no response
presented, nothing yet seen of the run. -/
def State.reset : State where
  ch := resetChannels
  fb := resetFrame
  nextTime := 0
  phase := .idle
  busy := false
  rsp := none
  inp := Inputs.atReset
  upcoming := []
  par := Config.params
  sent := []
  responses := []
  drawn := 0

end Sys2Proof.Machine
end

