-- ==== Sys2Proof/Machine/Flags.lean ====
section
/-! DEFINITION. The block has no condition codes (R28). The only status bits it produces belong to one response: the
response status code (R72) and TICK's `emitted` bit (R121). This file gives them, and the result formats of R71, in
which every bit a row does not name is 0. -/

namespace Sys2Proof.Machine

/-- The code on `rsp_status[1:0]` (R72). -/
def Status.code : Status → BitVec 2
  | .ok => 0
  | .illegalCmd => 1
  | .domain => 2

/-- `res = 0`: NOP, a TICK that is not due, any error (R71). -/
def zeroResult : Result := 0

/-- TICK: `res[0] = emitted` (R71, R115, R121). -/
def emittedResult (emitted : Bool) : Result := (BitVec.ofBool emitted).setWidth 208

/-- MAP, UNPACK: `res[11i+10:11i]` is channel `i` (R71, R98, R109). -/
def channelsResult (c : Channels) : Result := (channelBus c).setWidth 208

/-- SCALE: `res[10:0]` is the scaled value (R71). -/
def chanResult (v : Chan) : Result := v.setWidth 208

/-- ENCODE: `res[8k+7:8k]` is frame byte `k` (R71, R107). -/
def frameResult (f : Frame) : Result := frameBus f

/-- CRC_LOOKUP, CRC_STEP: `res[7:0]` is the CRC value (R71). -/
def byteResult (b : Byte) : Result := b.setWidth 208

end Sys2Proof.Machine
end

