-- ==== Sys2Proof/Machine/Ops.lean ====
section
/-! DEFINITION. The named operations over the state that the commands share: accepting a command, responding, raising
an error, sampling the clock, transferring a frame, reset, and the host's own move between two steps. -/

namespace Sys2Proof.Machine

/-- The block drops the response it presented: `rsp_valid` is 1 for one response only (R34). -/
def State.clearRsp (s : State) : State := { s with rsp := none }

/-- Acceptance (R33, R60): `busy <- 1`. The handshake takes the command off the port, so that the host presents it once
(log 1). -/
def State.accept (s : State) : State :=
  { s with busy := true, rsp := none, inp := { s.inp with cmdValid := false } }

/-- `Respond(status, res)` (R13, R60, R72): the command ends, its response is presented, `busy <- 0`.
The response is given with the command's end, and a reset raised in the next moment does not take it back (DESIGN
CHOICE, log 14). -/
def State.respond (s : State) (status : Status) (res : Result) : State :=
  { s with busy := false, rsp := some ⟨status, res⟩, responses := ⟨status, res⟩ :: s.responses }

/-- `raise Error(code)` (R130): `Respond(code, 0)`, no state written, nothing emitted. The block's one way to report an
error; it has no trap entry and no return (R136, R137). -/
def State.raiseError (s : State) (code : Status) : State := s.respond code zeroResult

/-- `now` as the port carries it: `TIME_W` bits, unsigned (R35; log 3). -/
def State.sampleNow (s : State) : Nat := s.inp.now % 2 ^ s.par.timeW

/-- `t_r` of the reschedule step (R120): `t`, sampled when the TICK was accepted, or the clock as it stands when the
transport accepts the frame. -/
def State.reschedTime (s : State) (t : Nat) : Nat :=
  match s.par.resched with
  | .atCheck => t
  | .afterTx => s.sampleNow

/-- `next_time <- (t_r + INTERVAL) mod 2^TIME_W` (R120): plain modular addition, no compensation for wrap (R152). -/
def State.reschedule (s : State) (t : Nat) : State :=
  { s with nextTime := (s.reschedTime t + Config.interval) % 2 ^ s.par.timeW }

/-- The transport accepts the frame (R119 to R121): the 26 bytes are transferred, `phase <- IDLE`, the pacer is
rescheduled, and the TICK responds with `emitted = 1`. -/
def State.transfer (s : State) (t : Nat) : State :=
  ({ s with sent := ⟨t, s.fb⟩ :: s.sent, phase := .idle }.reschedule t).respond .ok (emittedResult true)

/-- A frame is presented (`tx_valid = 1`): it is transferred if `tx_ready = 1`, else the TICK holds (R119). -/
def State.tryTransfer (s : State) (t : Nat) : State :=
  if s.inp.txReady then s.transfer t else s

/-- `Emit(FB)` (R13, R119): `phase <- EMIT`, then the transmit handshake. -/
def State.emitFrame (s : State) (t : Nat) : State :=
  { s with phase := .emit t }.tryTransfer t

/-- `rst = 1` (R144, R145): the block's state takes its reset values; a command in progress is abandoned with no
response and an unaccepted frame is not sent. What has been shown of the run stays shown. -/
def State.blockReset (s : State) : State :=
  { s with ch := resetChannels, fb := resetFrame, nextTime := 0, phase := .idle, busy := false, rsp := none }

/-- The host's move after each step: it puts its next values on the input ports. With none left, the wires keep their
values (log 1). If `rst` is among the new values, a response just given is on the port in no state (log 14). -/
def State.hostMoves (s : State) : State :=
  match s.upcoming with
  | [] => s
  | p :: ps => { s with inp := p, upcoming := ps }

/-- The host's move after a command's step. -/
def afterCommand (o : Host.Outcome State Fault Refusal) : Host.Outcome State Fault Refusal :=
  match o with
  | .next s => .next s.hostMoves
  | .fault r => .fault r
  | .refused r => .refused r

end Sys2Proof.Machine
end

