-- ==== Sys2Proof/Machine/Crc.lean ====
section
/-! DEFINITION. The CRC-8 table and its two commands (40_crc8.md). -/

namespace Sys2Proof.Machine

/-- One iteration of the loop of R78: the top bit is tested, the value is shifted left, and the polynomial is added if
the bit was set. -/
def crcShift (c : Byte) : Byte :=
  if c.getLsbD 7 then (c <<< 1) ^^^ Config.crcPoly else c <<< 1

/-- `n` iterations. -/
def crcShifts : Nat → Byte → Byte
  | 0, c => c
  | n + 1, c => crcShifts n (crcShift c)

/-- `Gen(i)` (R78). -/
def crcGen (i : Byte) : Byte := crcShifts 8 i

/-- `RomRead(i) = CRC_ROM[i]` (R24, R41): the constant table. Its contents are the generator's output, which governs
over the listing of R79 (R78). -/
def romRead (i : Byte) : Byte := crcGen i

/-- `CrcUpdate(c, b)` (R82). -/
def crcUpdate (c b : Byte) : Byte := romRead (c ^^^ b)

/-- `Crc8` of a byte sequence (R83). -/
def crc8 (bytes : List Byte) : Byte := bytes.foldl crcUpdate Config.crcInit

/-- CRC_LOOKUP (R80): read one table entry. -/
def execCrcLookup (idx : Byte) (s : State) : Host.Outcome State Fault Refusal :=
  .next (s.respond .ok (byteResult (romRead idx)))

/-- CRC_STEP (R81): one table-driven CRC step. -/
def execCrcStep (crc b : Byte) (s : State) : Host.Outcome State Fault Refusal :=
  .next (s.respond .ok (byteResult (crcUpdate crc b)))

end Sys2Proof.Machine
end

