-- ==== Sys2Proof/Machine/Encoder.lean ====
section
/-! DEFINITION. The frame encoder, its inverse, and the commands ENCODE and UNPACK (42_encoder.md). -/

namespace Sys2Proof.Machine

/-- The 22 payload bytes of a channel vector (R102, R103): the bytes of the 176-bit number `P`. -/
def payloadOf (c : Channels) : Payload := busPayload (channelBus c)

/-- The 23 bytes the frame CRC covers: the type byte and the payload (R105). -/
def crcCovered (p : Payload) : List Byte := Config.typeByte :: p.toList

/-- A frame around a payload: header (R104), payload, CRC (R105), in the order of R73. -/
def frameOfPayload (p : Payload) : Frame :=
  (#v[Config.addrByte, Config.lenByte, Config.typeByte] ++ p) ++ #v[crc8 (crcCovered p)]

/-- `EncodeFrame(c)` (R106). Total, no error path. -/
def encodeFrame (c : Channels) : Frame := frameOfPayload (payloadOf c)

/-- Frame bytes 3 to 24 (R73). -/
def framePayload (f : Frame) : Payload := Vector.ofFn fun k => f[3 + k.val]

/-- `Unpack(p)` (R108). -/
def unpack (p : Payload) : Channels := busChannels (payloadBus p)

/-- ENCODE (R107): encode the operand vector; nothing is stored and nothing is emitted. -/
def execEncode (c : Channels) (s : State) : Host.Outcome State Fault Refusal :=
  .next (s.respond .ok (frameResult (encodeFrame c)))

/-- UNPACK (R109): slice 22 payload bytes into channels. -/
def execUnpack (p : Payload) (s : State) : Host.Outcome State Fault Refusal :=
  .next (s.respond .ok (channelsResult (unpack p)))

end Sys2Proof.Machine
end

