-- ==== Sys2Proof/Machine/Mapper.lean ====
section
/-! DEFINITION. The scale function, the channel value mapper, and the commands MAP and SCALE (41_mapper.md). -/

namespace Sys2Proof.Machine

/-- `scale(v, a, b, lo, hi)` (R86): exact over the naturals but for the one floor division. -/
def scale (v a b lo hi : Nat) : Nat := lo + ((v - a) * (hi - lo)) / (b - a)

/-- The domain of `scale` (R88). -/
abbrev ScaleDomain (v a b lo hi : Nat) : Prop := a ≤ v ∧ v ≤ b ∧ a < b ∧ lo ≤ hi

/-- A scaled value on an 11-bit channel; on the domain, with `hi ≤ 2047`, nothing is lost (R87). -/
def scaleChan (v a b lo hi : Nat) : Chan := BitVec.ofNat 11 (scale v a b lo hi)

/-- A protocol constant as a channel value. -/
def chan (v : Nat) : Chan := BitVec.ofNat 11 v

/-- `Failsafe()` (R90): throttle and arm switch 172, the other fourteen channels 991. -/
def failsafe : Channels :=
  ((Vector.replicate 16 (chan Config.chMid)).set 1 (chan Config.chMin)).set 4 (chan Config.chMin)

/-- Whether the rudder reading lies in the domain of its `scale` call (R88, R91). With the parameters of R9 it always
does. -/
abbrev RudderInDomain (par : Params) (v : Reading) : Prop :=
  ScaleDomain v.toNat par.rudderMin.toNat par.rudderMax.toNat Config.chMin Config.chMax

/-- `ch'[0]`, rudder/yaw (R91). Outside the domain it is unspecified (U3): the free value given (log 7). -/
def rudderChan (par : Params) (free : Chan) (v : Reading) : Chan :=
  if RudderInDomain par v then
    scaleChan v.toNat par.rudderMin.toNat par.rudderMax.toNat Config.chMin Config.chMax
  else free

/-- `ch'[1]`, throttle, split domain (R92): the brake takes priority. -/
def throttleChan (brake throttle : Reading) : Chan :=
  if brake.toNat < Config.pedalMax then scaleChan brake.toNat 0 Config.pedalMax Config.chMin Config.chMid
  else scaleChan throttle.toNat 0 Config.pedalMax Config.chMid Config.chMax

/-- `ch'[2]` and `ch'[3]`: a full byte range mapped directly (R93, R94). -/
def axisChan (v : Byte) : Chan := scaleChan v.toNat 0 255 Config.chMin Config.chMax

/-- `ch'[4]`, arm switch (R95): pressed means non-zero. -/
def armChan (button : Byte) : Chan := if button ≠ 0 then chan Config.chMax else chan Config.chMin

/-- `Live(prev, snap)` (R91 to R96): channels 0 to 4 are driven, channels 5 to 15 keep their previous value. -/
def live (par : Params) (free : Chan) (prev : Channels) (snap : Snapshot) : Channels :=
  ((((prev.set 0 (rudderChan par free snap.rudder)).set 1 (throttleChan snap.brake snap.throttle)).set 2
    (axisChan snap.roll)).set 3 (axisChan snap.pitch)).set 4 (armChan snap.btn[par.armBtn])

/-- `Mapper(prev, present, snap)` (R89). -/
def mapper (par : Params) (free : Chan) (prev : Channels) (present : Bool) (snap : Snapshot) : Channels :=
  if present then live par free prev snap else failsafe

/-- Whether this evaluation of the mapper takes a free value (U3). -/
def mapperDraws (par : Params) (present : Bool) (snap : Snapshot) : Bool :=
  present && !decide (RudderInDomain par snap.rudder)

/-- The mapper's result on the current channels and the inputs sampled now (R54, R89). -/
def State.mapped (s : State) : Channels :=
  mapper s.par (Config.freeChannel s.drawn) s.ch s.inp.inPresent s.inp.snap

/-- The model's counter of free values moves on if the mapper took one (log 7). -/
def State.drawFree (s : State) : State :=
  if mapperDraws s.par s.inp.inPresent s.inp.snap then { s with drawn := s.drawn + 1 } else s

/-- MAP (R98): evaluate the mapper, change no state of the block. -/
def execMap (s : State) : Host.Outcome State Fault Refusal :=
  .next (s.drawFree.respond .ok (channelsResult s.mapped))

/-- SCALE (R99): evaluate `scale` on the operands, DOMAIN outside its domain. -/
def execScale (value inMin inMax : Reading) (outMin outMax : Chan) (s : State) : Host.Outcome State Fault Refusal :=
  if ScaleDomain value.toNat inMin.toNat inMax.toNat outMin.toNat outMax.toNat then
    .next (s.respond .ok (chanResult (scaleChan value.toNat inMin.toNat inMax.toNat outMin.toNat outMax.toNat)))
  else .next (s.raiseError .domain)

end Sys2Proof.Machine
end

