-- ==== Sys2Proof/Machine/Pacer.lean ====
section
/-! DEFINITION. The transmit pacer and its command TICK (43_pacer.md). -/

namespace Sys2Proof.Machine

/-- Step (a), map (R117): all sixteen channels at once. -/
def State.mapStep (s : State) : State := { s.drawFree with ch := s.mapped }

/-- Step (b), encode (R118): the frame of the channels as they now stand. -/
def State.encodeStep (s : State) : State := { s with fb := encodeFrame s.ch }

/-- A TICK at `t` is due (R114): the plain unsigned comparison. -/
abbrev State.Due (s : State) : Prop := s.nextTime ≤ s.sampleNow

/-- TICK (R114): when due, steps (a) to (d) in order (R116); when not, respond with `emitted = 0` (R115). -/
def execTick (s : State) : Host.Outcome State Fault Refusal :=
  if s.Due then .next (s.mapStep.encodeStep.emitFrame s.sampleNow)
  else .next (s.respond .ok (emittedResult false))

end Sys2Proof.Machine
end

