-- ==== Sys2Proof/Machine/System.lean ====
section
/-! DEFINITION. NOP and the reserved codes (44_system.md). -/

namespace Sys2Proof.Machine

/-- NOP (R125): respond, nothing else. -/
def execNop (s : State) : Host.Outcome State Fault Refusal := .next (s.respond .ok zeroResult)

/-- A reserved code (R126, R131): ILLEGAL_CMD whatever the code and the operand. -/
def execReserved (_code : Code) (s : State) : Host.Outcome State Fault Refusal := .next (s.raiseError .illegalCmd)

end Sys2Proof.Machine
end

