-- ==== Sys2Proof/Syntax.lean ====
section
/-! DEFINITION. The commands of R61: one constructor per row of spec/opcode_table.json, with the operand fields of
the row's format (R62 to R67). -/

namespace Sys2Proof

/-- A command with its operands. -/
inductive Instr where
  /-- NOP, `cmd = 0x0`, format FN (R125). -/
  | nop
  /-- TICK, `cmd = 0x1`, format FN (R114). -/
  | tick
  /-- MAP, `cmd = 0x2`, format FN (R98). -/
  | map
  /-- SCALE, `cmd = 0x3`, format FS (R63, R99). -/
  | scale (value inMin inMax : Reading) (outMin outMax : Chan)
  /-- ENCODE, `cmd = 0x4`, format FV (R66, R107). -/
  | encode (c : Channels)
  /-- UNPACK, `cmd = 0x5`, format FP (R67, R109). -/
  | unpack (p : Payload)
  /-- CRC_LOOKUP, `cmd = 0x6`, format FL (R64, R80). -/
  | crcLookup (idx : Byte)
  /-- CRC_STEP, `cmd = 0x7`, format FC (R65, R81). -/
  | crcStep (crc b : Byte)
  /-- A reserved code, `cmd = 0x8` to `0xF` (R69, R126). `code` is the whole code. -/
  | reserved (code : Code)
deriving DecidableEq, Repr

end Sys2Proof
end

