-- ==== Sys2Proof/Machine/Dispatch.lean ====
section
/-! DEFINITION. Which meaning each command has. -/

namespace Sys2Proof.Machine

def exec (i : Instr) (s : State) : Host.Outcome State Fault Refusal :=
  match i with
  | .nop => Sys2Proof.Machine.execNop s
  | .tick => Sys2Proof.Machine.execTick s
  | .map => Sys2Proof.Machine.execMap s
  | .scale value inMin inMax outMin outMax => Sys2Proof.Machine.execScale value inMin inMax outMin outMax s
  | .encode c => Sys2Proof.Machine.execEncode c s
  | .unpack p => Sys2Proof.Machine.execUnpack p s
  | .crcLookup idx => Sys2Proof.Machine.execCrcLookup idx s
  | .crcStep crc b => Sys2Proof.Machine.execCrcStep crc b s
  | .reserved code => Sys2Proof.Machine.execReserved code s

end Sys2Proof.Machine
end

