-- ==== Sys2Proof/Machine/Operands.lean ====
section
/-! DEFINITION. The operand formats of R62 to R67: where each field lies on `opnd`, read (`…Of`) and written (`…Bus`).
Every field is taken as is, unsigned; bits a format does not name are ignored when read and 0 when written
(R68, R75). Format FN has no field. -/

namespace Sys2Proof.Machine

/-- FS (R63): `value = opnd[15:0]`. -/
def fsValue (o : Operand) : Reading := o.extractLsb' 0 16
/-- FS (R63): `in_min = opnd[31:16]`. -/
def fsInMin (o : Operand) : Reading := o.extractLsb' 16 16
/-- FS (R63): `in_max = opnd[47:32]`. -/
def fsInMax (o : Operand) : Reading := o.extractLsb' 32 16
/-- FS (R63): `out_min = opnd[58:48]`. -/
def fsOutMin (o : Operand) : Chan := o.extractLsb' 48 11
/-- FS (R63): `out_max = opnd[69:59]`. -/
def fsOutMax (o : Operand) : Chan := o.extractLsb' 59 11

/-- FS (R63) written: `{out_max, out_min, in_max, in_min, value}`, the ignored bits 0. -/
def fsBus (value inMin inMax : Reading) (outMin outMax : Chan) : Operand :=
  (outMax ++ outMin ++ inMax ++ inMin ++ value).setWidth 176

/-- FL (R64): `idx = opnd[7:0]`. -/
def flIdx (o : Operand) : Byte := o.extractLsb' 0 8

/-- FL (R64) written. -/
def flBus (idx : Byte) : Operand := idx.setWidth 176

/-- FC (R65): `crc = opnd[7:0]`. -/
def fcCrc (o : Operand) : Byte := o.extractLsb' 0 8
/-- FC (R65): `b = opnd[15:8]`. -/
def fcByte (o : Operand) : Byte := o.extractLsb' 8 8

/-- FC (R65) written: `{b, crc}`. -/
def fcBus (crc b : Byte) : Operand := (b ++ crc).setWidth 176

/-- FV (R66): `c[i] = opnd[11i+10:11i]`. -/
def fvChannels (o : Operand) : Channels := busChannels o

/-- FV (R66) written. -/
def fvBus (c : Channels) : Operand := channelBus c

/-- FP (R67): `p[k] = opnd[8k+7:8k]`. -/
def fpPayload (o : Operand) : Payload := busPayload o

/-- FP (R67) written. -/
def fpBus (p : Payload) : Operand := payloadBus p

end Sys2Proof.Machine
end

