-- ==== Sys2Proof/WellFormed.lean ====
section
/-! DEFINITION. Which terms of `Instr` some command word spells. Every operand field is an unsigned field of its own
width and no operand value is reserved (R68), so the types say all but one thing: a reserved code has `cmd[3] = 1`. -/

namespace Sys2Proof

/-- The one check: the code of a reserved command is one of `0x8` to `0xF` (R61, R69). -/
def Instr.wellFormed : Instr → Bool
  | .nop => true
  | .tick => true
  | .map => true
  | .scale _ _ _ _ _ => true
  | .encode _ => true
  | .unpack _ => true
  | .crcLookup _ => true
  | .crcStep _ _ => true
  | .reserved code => code.getLsbD 3

end Sys2Proof
end

