-- ==== Sys2Proof/Decode.lean ====
section
/-! DEFINITION. The decoder and the encoder of R61.

The decoder looks at `cmd` alone to select the command, and at `opnd` only through the fields of the selected format
(R59). It is total and rejects no word: each of the sixteen codes is either one of the eight commands or one of the
eight reserved codes, and a reserved code is a command the block answers (R69, R126), so there is no word left to
reject by name. -/

namespace Sys2Proof

open Sys2Proof.Machine

/-- The command that `cmd` and `opnd` spell (R61; formats R62 to R67). -/
def decode (cmd : Code) (opnd : Operand) : Instr :=
  if cmd = 0x0 then .nop
  else if cmd = 0x1 then .tick
  else if cmd = 0x2 then .map
  else if cmd = 0x3 then .scale (fsValue opnd) (fsInMin opnd) (fsInMax opnd) (fsOutMin opnd) (fsOutMax opnd)
  else if cmd = 0x4 then .encode (fvChannels opnd)
  else if cmd = 0x5 then .unpack (fpPayload opnd)
  else if cmd = 0x6 then .crcLookup (flIdx opnd)
  else if cmd = 0x7 then .crcStep (fcCrc opnd) (fcByte opnd)
  else .reserved cmd

/-- The code of a command (R61). -/
def Instr.code : Instr → Code
  | .nop => 0x0
  | .tick => 0x1
  | .map => 0x2
  | .scale _ _ _ _ _ => 0x3
  | .encode _ => 0x4
  | .unpack _ => 0x5
  | .crcLookup _ => 0x6
  | .crcStep _ _ => 0x7
  | .reserved code => code

/-- The operand bus of a command, ignored bits 0 (R62 to R67, R75). -/
def Instr.operand : Instr → Operand
  | .nop => 0
  | .tick => 0
  | .map => 0
  | .scale value inMin inMax outMin outMax => fsBus value inMin inMax outMin outMax
  | .encode c => fvBus c
  | .unpack p => fpBus p
  | .crcLookup idx => flBus idx
  | .crcStep crc b => fcBus crc b
  | .reserved _ => 0

/-- The command word and operand bus that spell a command. -/
def encode (i : Instr) : Code × Operand := (i.code, i.operand)

/-- Which bits of `opnd` the format of a code names (R62 to R67); the others are ignored (R68). -/
def operandMask (cmd : Code) : Operand :=
  if cmd = 0x3 then BitVec.ofNat 176 (2 ^ 70 - 1)
  else if cmd = 0x4 then BitVec.allOnes 176
  else if cmd = 0x5 then BitVec.allOnes 176
  else if cmd = 0x6 then BitVec.ofNat 176 (2 ^ 8 - 1)
  else if cmd = 0x7 then BitVec.ofNat 176 (2 ^ 16 - 1)
  else 0

/-- A command as one number of 180 bits, `{opnd, cmd}`: `cmd`, the word that the opcode table numbers from bit 0, and
`opnd` counted on from it at bit 4 (DESIGN CHOICE, log 5: the spec puts the two on two buses). -/
def encodeWord (i : Instr) : BitVec 180 := i.operand ++ i.code

/-- The command that a number laid out as by `encodeWord` spells. -/
def decodeWord (w : BitVec 180) : Instr := decode (w.extractLsb' 0 4) (w.extractLsb' 4 176)

/-- The 180-bit command whose low `nbits` bits are those of `w` and whose other bits are 0. -/
def tableWord (nbits w : Nat) : BitVec 180 := BitVec.ofNat 180 (w % 2 ^ nbits)

/-- The command the decoder reads from the bits `w`, numbered as spec/opcode_table.json numbers them. -/
def decodeTableWord (nbits w : Nat) : Option Instr := some (decodeWord (tableWord nbits w))

end Sys2Proof
end

