-- ==== Sys2Proof/Machine/Ports.lean ====
section
/-! DEFINITION. The block's output ports and status outputs, each a function of the state (R31, R33, R34, R37, R38),
and the command the ports present. -/

namespace Sys2Proof.Machine

/-- `cmd_ready = ¬busy ∧ ¬rst` (R33, R38). -/
def State.cmdReady (s : State) : Bool := !s.busy && !s.inp.rst

/-- `rsp_valid` (R34), 0 while `rst = 1` (R38). So a response given in the step just before the host raises `rst` is on
the port in no state, and still counts as given (DESIGN CHOICE, log 14). -/
def State.rspValid (s : State) : Bool := !s.inp.rst && s.rsp.isSome

/-- `rsp_status` and `res` while a response is presented (R34, R72); the spec gives them no value otherwise. -/
def State.rspPort (s : State) : Option (BitVec 2 × Result) :=
  if s.inp.rst then none else s.rsp.map fun r => (r.status.code, r.res)

/-- `tx_valid`: 1 only while `phase = EMIT` (R37), 0 while `rst = 1` (R38). -/
def State.txValid (s : State) : Bool := !s.inp.rst && decide (s.phase ≠ .idle)

/-- `tx_data` while `tx_valid = 1`: `FB[k]` at bits `[8k+7:8k]` (R37); the spec gives it no value otherwise (R22). -/
def State.txData (s : State) : Option (BitVec 208) := if s.txValid then some (frameBus s.fb) else none

/-- `st_ch`: `ch[i]` at bits `[11i+10:11i]`, always valid (R31). -/
def State.stCh (s : State) : BitVec 176 := channelBus s.ch

/-- `st_next_time`, always valid (R31). -/
def State.stNextTime (s : State) : BitVec s.par.timeW := BitVec.ofNat s.par.timeW s.nextTime

/-- The command accepted at this moment: `cmd_valid = 1` and `cmd_ready = 1` together (R33, R60). -/
def State.accepted (s : State) : Option Instr :=
  if s.inp.cmdValid && s.cmdReady then some (decode s.inp.cmd s.inp.opnd) else none

end Sys2Proof.Machine
end

