-- ==== Sys2Proof/Machine/Moment.lean ====
section
/-! DEFINITION. What the block does in one moment (log 1), and how a command is put before it (log 5). -/

namespace Sys2Proof.Machine

/-- One moment. `rst = 1` resets the block (R144). Else a TICK held in EMIT tries its transfer, and no command starts
(R119). Else a command presented while `cmd_ready = 1` is accepted and performed (R60). Else the block holds its state
(R143). Then the host puts its next values on the ports. -/
def moment (s : State) : Host.Outcome State Fault Refusal :=
  if s.inp.rst then .next s.blockReset.hostMoves
  else
    match s.phase with
    | .emit t => .next (s.clearRsp.tryTransfer t).hostMoves
    | .idle =>
      match s.accepted with
      | some i => afterCommand (exec i s.accept)
      | none => .next s.clearRsp.hostMoves

/-- `s` with the block ready and the code and operand of a 180-bit command on the command port (log 5). -/
def State.presentWord (s : State) (word : BitVec 180) : State :=
  { s with
    phase := .idle
    busy := false
    inp := { s.inp with
      rst := false
      cmdValid := true
      cmd := word.extractLsb' 0 4
      opnd := word.extractLsb' 4 176 } }

end Sys2Proof.Machine
end

