-- ==== Sys2Proof/Machine/Step.lean ====
section
/-! DEFINITION. The step of the machine, and the placing of one command before it. -/

namespace Sys2Proof.Machine

/-- One step is one moment (log 1). -/
def step (s : State) : Host.Outcome State Fault Refusal := moment s

/-- `s` with the command whose bits are `w` (numbered as spec/opcode_table.json numbers them, bits above `nbits` 0)
presented on the command port of a block that is ready for it, so that the next step accepts and runs it (log 5). -/
def State.withFetchWord (s : State) (nbits w : Nat) : State := s.presentWord (tableWord nbits w)

end Sys2Proof.Machine
end

