-- ==== Sys2Proof/Machine/Script.lean ====
section
/-! DEFINITION. The host's side: the lines of a command sequence (R75), the port values they put before the block, and
the pseudo-instruction `CRC8` (R76). A run starts from a state whose `upcoming` is an assembled script. -/

namespace Sys2Proof.Machine

/-- An `@` line (R75): a field not written keeps its previous value. -/
structure PortLine where
  now : Option Nat := none
  present : Option Bool := none
  roll : Option Byte := none
  pitch : Option Byte := none
  aux0 : Option Byte := none
  aux1 : Option Byte := none
  btn : Option (Vector Byte 4) := none
  rudder : Option Reading := none
  throttle : Option Reading := none
  brake : Option Reading := none
deriving DecidableEq, Repr

/-- A line of R75 that is not the pseudo-instruction. -/
inductive Line where
  /-- a command with its operands -/
  | command (i : Instr)
  /-- `.cmd 0xN`: the raw code with `opnd = 0` -/
  | raw (code : Code)
  /-- `.reset`: a pulse of `rst`, not a command -/
  | reset
  /-- `@ …` -/
  | ports (p : PortLine)
deriving DecidableEq, Repr

/-- The input ports with an `@` line applied (R75). -/
def PortLine.apply (p : PortLine) (b : Inputs) : Inputs :=
  { b with
    now := p.now.getD b.now
    inPresent := p.present.getD b.inPresent
    snap :=
      { roll := p.roll.getD b.snap.roll
        pitch := p.pitch.getD b.snap.pitch
        aux0 := p.aux0.getD b.snap.aux0
        aux1 := p.aux1.getD b.snap.aux1
        btn := p.btn.getD b.snap.btn
        rudder := p.rudder.getD b.snap.rudder
        throttle := p.throttle.getD b.snap.throttle
        brake := p.brake.getD b.snap.brake } }

/-- The port values `b` with a command presented. -/
def Inputs.present (b : Inputs) (cmd : Code) (opnd : Operand) : Inputs :=
  { b with rst := false, cmdValid := true, cmd := cmd, opnd := opnd }

/-- The port values `b` with `rst` raised and no command presented. -/
def Inputs.pulse (b : Inputs) : Inputs := { b with rst := true, cmdValid := false }

/-- The port values of a script, one entry for each command and each `.reset`, from the values `b` the `@` lines have
left so far (R75). -/
def assemble (b : Inputs) : List Line → List Inputs
  | [] => []
  | .command i :: rest => b.present i.code i.operand :: assemble b rest
  | .raw code :: rest => b.present code 0 :: assemble b rest
  | .reset :: rest => b.pulse :: assemble b rest
  | .ports p :: rest => assemble (p.apply b) rest

/-- The commands of `CRC8 b0, …, bn-1` after a running value `r` (R76): each CRC_STEP takes the value the previous one
answers. -/
def crc8Commands (r : Byte) : List Byte → List Instr
  | [] => []
  | b :: bs => .crcStep r b :: crc8Commands (crcUpdate r b) bs

/-- `CRC8 b0, …, bn-1` as lines (R76). -/
def crc8Lines (bytes : List Byte) : List Line := (crc8Commands Config.crcInit bytes).map .command

/-- `res[7:0]` of the response a state presents. -/
def State.rspByte (s : State) : Byte :=
  match s.rsp with
  | some r => r.res.extractLsb' 0 8
  | none => 0

/-- The host's loop for `CRC8` (R76): each CRC_STEP is given the `res[7:0]` it reads from the previous response. -/
def crc8Host (r : Byte) : List Byte → State → Host.Outcome State Fault Refusal
  | [], s => .next s
  | b :: bs, s =>
    match exec (.crcStep r b) s with
    | .next t => crc8Host t.rspByte bs t
    | .fault f => .fault f
    | .refused f => .refused f

/-! The text of a line (R75): decimal operands for SCALE and ENCODE, hexadecimal for the others. -/

/-- One hexadecimal digit, in capitals. -/
def hexDigit (n : Nat) : Char :=
  if n < 10 then Char.ofNat (48 + n) else Char.ofNat (55 + n)

/-- `k` hexadecimal digits of `n`, most significant first. -/
def hexText : Nat → Nat → List Char
  | 0, _ => []
  | k + 1, n => hexText k (n / 16) ++ [hexDigit (n % 16)]

/-- Items joined by a comma and a space. -/
def commaText : List (List Char) → List Char
  | [] => []
  | [x] => x
  | x :: y :: rest => x ++ [',', ' '] ++ commaText (y :: rest)

/-- A number in decimal. -/
def decText (n : Nat) : List Char := Nat.toDigits 10 n

/-- The text of a command (R75). -/
def commandText : Instr → List Char
  | .nop => "NOP".toList
  | .tick => "TICK".toList
  | .map => "MAP".toList
  | .scale v a b lo hi =>
    "SCALE ".toList ++ commaText ([v.toNat, a.toNat, b.toNat, lo.toNat, hi.toNat].map decText)
  | .encode c => "ENCODE ".toList ++ commaText (c.toList.map fun x => decText x.toNat)
  | .unpack p => "UNPACK ".toList ++ commaText (p.toList.map fun x => hexText 2 x.toNat)
  | .crcLookup idx => "CRC_LOOKUP 0x".toList ++ hexText 2 idx.toNat
  | .crcStep crc b => "CRC_STEP 0x".toList ++ hexText 2 crc.toNat ++ ", 0x".toList ++ hexText 2 b.toNat
  | .reserved code => ".cmd 0x".toList ++ hexText 1 code.toNat

/-- The text of a command's encoding (R75): `cmd=0xN opnd=0x…`, 44 digits. -/
def encodingText (i : Instr) : List Char :=
  "cmd=0x".toList ++ hexText 1 i.code.toNat ++ " opnd=0x".toList ++ hexText 44 i.operand.toNat

end Sys2Proof.Machine
end

