-- ==== Sys2Proof/Safety.lean ====
section
/-! DEFINITION. What counts as a safe state and a safe run of the block, in the terms the statements use. Each
predicate is a rule of the spec about the whole machine, read as a property of one state that every step keeps. -/

namespace Sys2Proof.Machine

/-- A channel value in the protocol range `[172, 1811]` (R100). -/
abbrev ChanInRange (v : Chan) : Prop := Config.chMin ≤ v.toNat ∧ v.toNat ≤ Config.chMax

/-- A channel vector whose channels 5 to 15 are at the centre (R96). -/
abbrev AuxCentred (v : Channels) : Prop := ∀ i : Fin 16, 5 ≤ i.val → v[i] = chan Config.chMid

/-- A channel vector the block can hold with the rudder parameters of R9 (R96, R100). -/
abbrev ChannelsSafe (v : Channels) : Prop := (∀ i : Fin 16, ChanInRange v[i]) ∧ AuxCentred v

/-- `phase` is EMIT. -/
def Phase.isEmit : Phase → Bool
  | .idle => false
  | .emit _ => true

/-- At a command boundary `phase = IDLE` (R25), and `busy` is 1 exactly while a command is in flight (R60), which
between two steps can only be a TICK held in EMIT (R119). -/
abbrev State.HandshakeOk (s : State) : Prop := s.busy = s.phase.isEmit

/-- `next_time` and a held TICK's clock sample are `TIME_W`-bit values (R23), and a held TICK was due (R114). -/
def State.TimesOk (s : State) : Prop :=
  s.nextTime < 2 ^ s.par.timeW ∧ ∀ t, s.phase = .emit t → s.nextTime ≤ t ∧ t < 2 ^ s.par.timeW

/-- While a frame is presented, the frame buffer holds the frame of the channels (R118, R119). -/
def State.FrameHeld (s : State) : Prop := s.phase.isEmit = true → s.fb = encodeFrame s.ch

/-- Channels 5 to 15 hold 991 (R96). -/
abbrev State.AuxOk (s : State) : Prop := AuxCentred s.ch

/-- With the rudder parameters of R9 every channel is in `[172, 1811]` and channels 5 to 15 hold 991 (R96, R100). -/
abbrev State.ChannelsOk (s : State) : Prop := s.par.FullRudder ∧ ChannelsSafe s.ch

/-- Every frame handed to the transport is the frame of some safe channel vector, as is a frame now presented: header
bytes, payload and CRC all as R73 says, whatever the host did. -/
def State.SentOk (s : State) : Prop :=
  s.ChannelsOk ∧ s.FrameHeld ∧ ∀ x ∈ s.sent, ∃ c : Channels, ChannelsSafe c ∧ x.frame = encodeFrame c

/-- No two transferred frames were checked less than 4000 µs apart, and none less than 4000 µs before `next_time`
(R123). `sent` is newest first. -/
def State.Paced (s : State) : Prop :=
  s.sent.Pairwise (fun newer older => older.t + Config.interval ≤ newer.t) ∧
  ∀ x ∈ s.sent, x.t + Config.interval ≤ s.nextTime

/-- The port values now and to come, in order. -/
def State.moments (s : State) : List Inputs := s.inp :: s.upcoming

/-- The host duties R123 assumes, over everything the host does: no reset, a clock that never goes back (R149) and
never comes within one interval of its wrap (R152); and a held TICK's sample is not later than the clock. -/
def State.ClockDuty (s : State) : Prop :=
  (∀ p ∈ s.moments, p.rst = false ∧ p.now + Config.interval < 2 ^ s.par.timeW) ∧
  s.moments.Pairwise (fun earlier later => earlier.now ≤ later.now) ∧
  ∀ t, s.phase = .emit t → s.nextTime ≤ t ∧ t ≤ s.inp.now

/-- The transport never accepts and the host never resets, now or later (R151, U6). -/
def State.TransportDead (s : State) : Prop := ∀ p ∈ s.moments, p.rst = false ∧ p.txReady = false

/-- The block's five pieces of state (R20), compared. -/
def State.SameBlock (s t : State) : Prop :=
  t.ch = s.ch ∧ t.fb = s.fb ∧ t.nextTime = s.nextTime ∧ t.phase = s.phase ∧ t.busy = s.busy

/-- A command has ended in `s` giving `t`: exactly this response was given, it is on the response port, and the block
is ready again (R60, R72). -/
def State.Answered (s t : State) (status : Status) (res : Result) : Prop :=
  t.rsp = some ⟨status, res⟩ ∧ t.responses = ⟨status, res⟩ :: s.responses ∧ t.busy = false

/-- What a command that writes no state leaves as it was (R127): the channels, the frame buffer, the pacer and its
phase, the ports, the parameters, and the frames sent. -/
def State.Pure (s t : State) : Prop :=
  t.ch = s.ch ∧ t.fb = s.fb ∧ t.nextTime = s.nextTime ∧ t.phase = s.phase ∧
  t.inp = s.inp ∧ t.upcoming = s.upcoming ∧ t.par = s.par ∧ t.sent = s.sent

/-- What no command and no step touches but the block itself: the ports, the host's coming values, the parameters. -/
def State.SameEnv (s t : State) : Prop :=
  t.inp = s.inp ∧ t.upcoming = s.upcoming ∧ t.par = s.par

/-- All the invariants that hold with the rudder parameters of R9. -/
def State.Safe (s : State) : Prop := s.HandshakeOk ∧ s.TimesOk ∧ s.SentOk

/-! What the statements compare results with, written from the rules in plain numbers, apart from the model's own
functions. -/

/-- The channel field `i` of a result bus (R71). -/
def resChan (r : Result) (i : Nat) : Nat := r.toNat / 2 ^ (11 * i) % 2 ^ 11

/-- The byte `k` of a result bus (R71). -/
def resByte (r : Result) (k : Nat) : Nat := r.toNat / 2 ^ (8 * k) % 2 ^ 8

/-- The rudder reading is in its range and the range is not empty (R91). -/
abbrev State.RudderInRange (s : State) : Prop :=
  s.par.rudderMin.toNat ≤ s.inp.snap.rudder.toNat ∧ s.inp.snap.rudder.toNat ≤ s.par.rudderMax.toNat ∧
  s.par.rudderMin.toNat < s.par.rudderMax.toNat

/-- `v` is a vector the mapper may form from the channels and the inputs of `s` (R89 to R96), in numbers:
`1639 = 1811 - 172`, `819 = 991 - 172`, `820 = 1811 - 991`. With a rudder reading outside its range nothing is said of
channel 0 (R91, U3). -/
def State.MapsTo (s : State) (v : Channels) : Prop :=
  (s.inp.inPresent = false →
    ∀ i : Fin 16, v[i].toNat = if i.val = 1 ∨ i.val = 4 then 172 else 991) ∧
  (s.inp.inPresent = true →
    (s.RudderInRange →
      v[0].toNat = 172 + (s.inp.snap.rudder.toNat - s.par.rudderMin.toNat) * 1639 /
        (s.par.rudderMax.toNat - s.par.rudderMin.toNat)) ∧
    v[1].toNat = (if s.inp.snap.brake.toNat < 65535 then 172 + s.inp.snap.brake.toNat * 819 / 65535
      else 991 + s.inp.snap.throttle.toNat * 820 / 65535) ∧
    v[2].toNat = 172 + s.inp.snap.roll.toNat * 1639 / 255 ∧
    v[3].toNat = 172 + s.inp.snap.pitch.toNat * 1639 / 255 ∧
    v[4].toNat = (if s.inp.snap.btn[s.par.armBtn] = 0 then 172 else 1811) ∧
    ∀ i : Fin 16, 5 ≤ i.val → v[i] = s.ch[i])

/-- How the counter of free values moves when the mapper has run (log 7): only a present input with a rudder reading
outside its range takes one. -/
def State.DrawsFree (s t : State) : Prop :=
  t.drawn = if s.inp.inPresent = true ∧ ¬ s.RudderInRange then s.drawn + 1 else s.drawn

/-- `f` is the frame of the channel vector `v`, said bit by bit (R102 to R105): constant header, stream bit `j` at bit
`j mod 8` of frame byte `3 + j / 8`, and the CRC over frame bytes 2 to 24. -/
def FrameOf (v : Channels) (f : Frame) : Prop :=
  f[0] = 0xEE ∧ f[1] = 0x18 ∧ f[2] = 0x16 ∧
  (∀ j : Fin 176, (f[3 + j.val / 8]).getLsbD (j.val % 8) = (v[j.val / 11]).getLsbD (j.val % 11)) ∧
  f[25] = crc8 ((f.toList.drop 2).take 23)

/-- The listing of CRC_ROM in R79, rows 0 to 7. -/
def crcListingLow : List Nat :=
  [0x00, 0xD5, 0x7F, 0xAA, 0xFE, 0x2B, 0x81, 0x54, 0x29, 0xFC, 0x56, 0x83, 0xD7, 0x02, 0xA8, 0x7D] ++
  [0x52, 0x87, 0x2D, 0xF8, 0xAC, 0x79, 0xD3, 0x06, 0x7B, 0xAE, 0x04, 0xD1, 0x85, 0x50, 0xFA, 0x2F] ++
  [0xA4, 0x71, 0xDB, 0x0E, 0x5A, 0x8F, 0x25, 0xF0, 0x8D, 0x58, 0xF2, 0x27, 0x73, 0xA6, 0x0C, 0xD9] ++
  [0xF6, 0x23, 0x89, 0x5C, 0x08, 0xDD, 0x77, 0xA2, 0xDF, 0x0A, 0xA0, 0x75, 0x21, 0xF4, 0x5E, 0x8B] ++
  [0x9D, 0x48, 0xE2, 0x37, 0x63, 0xB6, 0x1C, 0xC9, 0xB4, 0x61, 0xCB, 0x1E, 0x4A, 0x9F, 0x35, 0xE0] ++
  [0xCF, 0x1A, 0xB0, 0x65, 0x31, 0xE4, 0x4E, 0x9B, 0xE6, 0x33, 0x99, 0x4C, 0x18, 0xCD, 0x67, 0xB2] ++
  [0x39, 0xEC, 0x46, 0x93, 0xC7, 0x12, 0xB8, 0x6D, 0x10, 0xC5, 0x6F, 0xBA, 0xEE, 0x3B, 0x91, 0x44] ++
  [0x6B, 0xBE, 0x14, 0xC1, 0x95, 0x40, 0xEA, 0x3F, 0x42, 0x97, 0x3D, 0xE8, 0xBC, 0x69, 0xC3, 0x16]

/-- The listing of CRC_ROM in R79, rows 8 to F. -/
def crcListingHigh : List Nat :=
  [0xEF, 0x3A, 0x90, 0x45, 0x11, 0xC4, 0x6E, 0xBB, 0xC6, 0x13, 0xB9, 0x6C, 0x38, 0xED, 0x47, 0x92] ++
  [0xBD, 0x68, 0xC2, 0x17, 0x43, 0x96, 0x3C, 0xE9, 0x94, 0x41, 0xEB, 0x3E, 0x6A, 0xBF, 0x15, 0xC0] ++
  [0x4B, 0x9E, 0x34, 0xE1, 0xB5, 0x60, 0xCA, 0x1F, 0x62, 0xB7, 0x1D, 0xC8, 0x9C, 0x49, 0xE3, 0x36] ++
  [0x19, 0xCC, 0x66, 0xB3, 0xE7, 0x32, 0x98, 0x4D, 0x30, 0xE5, 0x4F, 0x9A, 0xCE, 0x1B, 0xB1, 0x64] ++
  [0x72, 0xA7, 0x0D, 0xD8, 0x8C, 0x59, 0xF3, 0x26, 0x5B, 0x8E, 0x24, 0xF1, 0xA5, 0x70, 0xDA, 0x0F] ++
  [0x20, 0xF5, 0x5F, 0x8A, 0xDE, 0x0B, 0xA1, 0x74, 0x09, 0xDC, 0x76, 0xA3, 0xF7, 0x22, 0x88, 0x5D] ++
  [0xD6, 0x03, 0xA9, 0x7C, 0x28, 0xFD, 0x57, 0x82, 0xFF, 0x2A, 0x80, 0x55, 0x01, 0xD4, 0x7E, 0xAB] ++
  [0x84, 0x51, 0xFB, 0x2E, 0x7A, 0xAF, 0x05, 0xD0, 0xAD, 0x78, 0xD2, 0x07, 0x53, 0x86, 0x2C, 0xF9]

/-- The listing of CRC_ROM in R79. -/
def crcListing : List Nat := crcListingLow ++ crcListingHigh

/-- `s` with other snapshot ports. -/
def State.withSnap (s : State) (snap : Snapshot) : State := { s with inp := { s.inp with snap := snap } }

/-- Two snapshots agree on everything the mapper reads (R97). -/
def Snapshot.AgreeOnRead (par : Params) (a b : Snapshot) : Prop :=
  a.rudder = b.rudder ∧ a.throttle = b.throttle ∧ a.brake = b.brake ∧ a.roll = b.roll ∧ a.pitch = b.pitch ∧
  a.btn[par.armBtn] = b.btn[par.armBtn]

end Sys2Proof.Machine
end

