-- ==== Sys2Proof/Certificates/Slice0/Obligations.lean ====
section
/-! DEFINITION. The statements about the block, from the spec's numbered rules. -/

namespace Sys2Proof.Machine

/-- A byte as a polynomial over GF(2): bit `i` is the coefficient of `x^i` (R77). -/
noncomputable def bytePoly (b : Byte) : Polynomial (ZMod 2) :=
  ∑ i : Fin 8, if b.getLsbD i.val then Polynomial.X ^ i.val else 0

/-- A byte sequence as a polynomial over GF(2), first byte highest, most significant bit first (R77). -/
noncomputable def messagePoly (bytes : List Byte) : Polynomial (ZMod 2) :=
  bytes.foldl (fun p b => p * Polynomial.X ^ 8 + bytePoly b) 0

/-- The generator polynomial of R77. -/
noncomputable def crcPolynomial : Polynomial (ZMod 2) :=
  Polynomial.X ^ 8 + Polynomial.X ^ 7 + Polynomial.X ^ 6 + Polynomial.X ^ 4 + Polynomial.X ^ 2 + 1

end Sys2Proof.Machine

open Sys2Proof Sys2Proof.Machine

/-! ## Decoding and encoding (30_encoding.md) -/

/-- R59 to R67: every well-formed command, with every operand value, is decoded back from its encoding. -/
def Obligations.DecodeOfEncode : Prop :=
  ∀ i : Instr, i.wellFormed = true → decode (encode i).1 (encode i).2 = i

/-- R61, R68: every word decodes to a well-formed command, whose encoding is the same code with the ignored operand
bits cleared and every other operand bit kept. -/
def Obligations.EncodeOfDecode : Prop :=
  ∀ (cmd : Code) (o : Operand),
    (decode cmd o).wellFormed = true ∧ encode (decode cmd o) = (cmd, o &&& operandMask cmd)

/-- R68: operand bits a format does not name have no effect: two moments that differ only in them are the same step. -/
def Obligations.IgnoredOperandBitsHaveNoEffect : Prop :=
  ∀ (s : State) (o : Operand), o &&& operandMask s.inp.cmd = s.inp.opnd &&& operandMask s.inp.cmd →
    s.inp.rst = false → s.phase = .idle → s.busy = false → s.inp.cmdValid = true →
    ∃ i t, s.accepted = some i ∧ { s with inp := { s.inp with opnd := o } }.accepted = some i ∧
      exec i s.accept = .next t ∧
      exec i { s with inp := { s.inp with opnd := o } }.accept = .next { t with inp := { t.inp with opnd := o } }

/-- R61: the code alone selects the command. -/
def Obligations.CodesSelectCommands : Prop :=
  ∀ o : Operand,
    decode 0x0 o = .nop ∧ decode 0x1 o = .tick ∧ decode 0x2 o = .map ∧
    (∃ v a b lo hi, decode 0x3 o = .scale v a b lo hi) ∧ (∃ v, decode 0x4 o = .encode v) ∧
    (∃ p, decode 0x5 o = .unpack p) ∧ (∃ i, decode 0x6 o = .crcLookup i) ∧
    (∃ r b, decode 0x7 o = .crcStep r b) ∧ ∀ cmd : Code, cmd.getLsbD 3 = true → decode cmd o = .reserved cmd

/-- Words written out from the vectors of 95_test_vectors.md (M6, M14, S1, S3, S5, C9, E25) decode to the command they
are listed for. -/
def Obligations.ListedWordsDecode : Prop :=
  decode 0x3 0x00000000000000000000000000032000000A00000005 = .scale 5 0 10 0 100 ∧
  decode 0x3 0x000000000000000000000000000320000014000A0005 = .scale 5 10 20 0 100 ∧
  decode 0x0 0x00000000000000000000000000000000000000000000 = .nop ∧
  decode 0xF 0x00000000000000000000000000000000000000000000 = .reserved 0xF ∧
  decode 0x6 0xFFFFFFFFFFFFFFFFFFFFFFFFFFFFFFFFFFFFFFFFFF80 = .crcLookup 0x80 ∧
  decode 0x7 0x00000000000000000000000000000000000000001600 = .crcStep 0x00 0x16 ∧
  decode 0x4 0x00000000000000000000000000000000000000000001 = .encode ((Vector.replicate 16 0).set 0 1)

/-! ## The commands -/

/-- R125: NOP responds OK with result 0, writes nothing, and reads no input port. -/
def Obligations.NopRespondsZero : Prop :=
  ∀ (s : State) (o : Operand), decode 0x0 o = .nop ∧
    ∃ t, exec .nop s = .next t ∧ s.Answered t .ok 0 ∧ s.Pure t ∧
      ∀ p : Inputs, exec .nop { s with inp := p } = .next { t with inp := p }

/-- R126: every reserved code responds ILLEGAL_CMD with result 0 and writes nothing, whatever the operand. -/
def Obligations.ReservedCodeAnswersIllegal : Prop :=
  ∀ (s : State) (cmd : Code) (o : Operand), cmd.getLsbD 3 = true →
    ∃ t, exec (decode cmd o) s = .next t ∧ s.Answered t .illegalCmd 0 ∧ s.Pure t

/-- R63, R86, R87, R99: SCALE on its domain, its fields read from `opnd` as R63 lays them out, answers the exact
interpolation, which fits the 11 bits of its result field. -/
def Obligations.ScaleAnswersInterpolation : Prop :=
  ∀ (s : State) (o : Operand) (v a b lo hi : Nat),
    v = o.toNat % 2 ^ 16 → a = o.toNat / 2 ^ 16 % 2 ^ 16 → b = o.toNat / 2 ^ 32 % 2 ^ 16 →
    lo = o.toNat / 2 ^ 48 % 2 ^ 11 → hi = o.toNat / 2 ^ 59 % 2 ^ 11 →
    a ≤ v → v ≤ b → a < b → lo ≤ hi →
    ∃ t res, exec (decode 0x3 o) s = .next t ∧ s.Answered t .ok res ∧ s.Pure t ∧
      res.toNat = lo + (v - a) * (hi - lo) / (b - a) ∧ lo ≤ res.toNat ∧ res.toNat ≤ hi

/-- R99, R132: SCALE outside its domain answers DOMAIN with result 0 and writes nothing. -/
def Obligations.ScaleOutsideDomainAnswersDomain : Prop :=
  ∀ (s : State) (o : Operand) (v a b lo hi : Nat),
    v = o.toNat % 2 ^ 16 → a = o.toNat / 2 ^ 16 % 2 ^ 16 → b = o.toNat / 2 ^ 32 % 2 ^ 16 →
    lo = o.toNat / 2 ^ 48 % 2 ^ 11 → hi = o.toNat / 2 ^ 59 % 2 ^ 11 →
    ¬ (a ≤ v ∧ v ≤ b ∧ a < b ∧ lo ≤ hi) →
    ∃ t, exec (decode 0x3 o) s = .next t ∧ s.Answered t .domain 0 ∧ s.Pure t

/-- R98: MAP answers a vector the mapper forms (R89 to R96), field by field, the other result bits 0, and writes no
state of the block. -/
def Obligations.MapAnswersMappedChannels : Prop :=
  ∀ s : State, ∃ t res v, exec .map s = .next t ∧ s.Answered t .ok res ∧ s.Pure t ∧
    s.MapsTo v ∧ (∀ i : Fin 16, resChan res i.val = (v[i]).toNat) ∧ res.toNat < 2 ^ 176

/-- R107: ENCODE answers, for every operand, the frame of its channels: constant header, the operand bus itself as the
payload, the CRC; it stores and emits nothing. -/
def Obligations.EncodeAnswersFrame : Prop :=
  ∀ (s : State) (o : Operand), ∃ t res f, exec (decode 0x4 o) s = .next t ∧ s.Answered t .ok res ∧ s.Pure t ∧
    (∀ k : Fin 26, resByte res k.val = (f[k]).toNat) ∧
    FrameOf (Vector.ofFn fun i : Fin 16 => o.extractLsb' (11 * i.val) 11) f ∧ res.extractLsb' 24 176 = o

/-- R108, R109: UNPACK answers the channel fields of its payload, which is its operand bus unchanged. -/
def Obligations.UnpackAnswersChannels : Prop :=
  ∀ (s : State) (o : Operand), ∃ t res, exec (decode 0x5 o) s = .next t ∧ s.Answered t .ok res ∧ s.Pure t ∧
    res.toNat = o.toNat ∧
    ∀ i : Fin 16, resChan res i.val = o.toNat / 2 ^ (11 * i.val) % 2 ^ 11

/-- R64, R79, R80: CRC_LOOKUP answers the listed table entry at `opnd[7:0]`. -/
def Obligations.CrcLookupAnswersListedEntry : Prop :=
  ∀ (s : State) (o : Operand), ∃ t res, exec (decode 0x6 o) s = .next t ∧ s.Answered t .ok res ∧ s.Pure t ∧
    res.toNat = crcListing.getD (o.toNat % 256) 0

/-- R65, R81, R82, R85: CRC_STEP answers the listed table entry at `crc ⊕ b`, which is the sum of the entries at `crc`
and at `b`. -/
def Obligations.CrcStepAnswersTableStep : Prop :=
  ∀ (s : State) (o : Operand), ∃ t res, exec (decode 0x7 o) s = .next t ∧ s.Answered t .ok res ∧ s.Pure t ∧
    res.toNat = crcListing.getD ((o.toNat % 256) ^^^ (o.toNat / 256 % 256)) 0 ∧
    res.toNat = crcListing.getD (o.toNat % 256) 0 ^^^ crcListing.getD (o.toNat / 256 % 256) 0

/-- R115: a TICK that is not due writes nothing, reads no input besides `now`, emits nothing, and responds 0. -/
def Obligations.TickNotDueDoesNothing : Prop :=
  ∀ s : State, s.inp.now % 2 ^ s.par.timeW < s.nextTime →
    ∃ t, exec .tick s = .next t ∧ s.Answered t .ok 0 ∧ s.Pure t ∧
      ∀ p : Inputs, p.now = s.inp.now → exec .tick { s with inp := p } = .next { t with inp := p }

/-- R114, R116 to R121: a due TICK whose transport is ready maps, encodes, transfers exactly one frame, reschedules
relative to the clock (not to the old deadline), and responds 1; it changes nothing else. That the transfer happens in the
accepting step, so that both clock samples of R120 agree, is log 1 (DESIGN CHOICE). -/
def Obligations.TickDueEmitsFrame : Prop :=
  ∀ s : State, s.nextTime ≤ s.inp.now % 2 ^ s.par.timeW → s.inp.txReady = true →
    ∃ t, exec .tick s = .next t ∧ s.MapsTo t.ch ∧ FrameOf t.ch t.fb ∧
      t.sent = ⟨s.inp.now % 2 ^ s.par.timeW, t.fb⟩ :: s.sent ∧
      t.nextTime = (s.inp.now % 2 ^ s.par.timeW + 4000) % 2 ^ s.par.timeW ∧
      t.phase = .idle ∧ s.Answered t .ok 1 ∧ s.SameEnv t

/-- R117 to R119: a due TICK whose transport is not ready has mapped and encoded, and holds in EMIT: no frame is
transferred, no response given, the pacer not rescheduled. That the phase carries the sample is log 4 (DEDUCED). -/
def Obligations.TickDueHoldsWithoutTransport : Prop :=
  ∀ s : State, s.nextTime ≤ s.inp.now % 2 ^ s.par.timeW → s.inp.txReady = false →
    ∃ t, exec .tick s = .next t ∧ s.MapsTo t.ch ∧ FrameOf t.ch t.fb ∧
      t.phase = .emit (s.inp.now % 2 ^ s.par.timeW) ∧ t.nextTime = s.nextTime ∧ t.busy = s.busy ∧ t.rsp = s.rsp ∧
      t.responses = s.responses ∧ t.sent = s.sent ∧ s.SameEnv t

/-- R122: with `next_time = 0`, as after reset, a TICK is due at every clock value and emits; and so does the first
step from reset that presents a TICK to a ready transport, whatever the other ports carry. That the frame is transferred in
the accepting step is log 1 (DESIGN CHOICE), and the width 64 of the reset parameters is log 2 (DESIGN CHOICE). -/
def Obligations.FirstTickAlwaysEmits : Prop :=
  (∀ s : State, s.nextTime = 0 → s.inp.txReady = true →
    ∃ t x, exec .tick s = .next t ∧ t.sent = x :: s.sent) ∧
  ∀ p : Inputs, p.rst = false → p.cmdValid = true → p.cmd = 0x1 → p.txReady = true →
    ∃ t x, step { State.reset with inp := p } = .next t ∧ t.sent = [x] ∧ x.t = p.now % 2 ^ 64 ∧
      t.nextTime = (x.t + 4000) % 2 ^ 64 ∧ t.rsp = some ⟨.ok, 1⟩

/-- R127, first sentence: every command but TICK is answered and leaves the block, its ports and what it has sent as
they were. -/
def Obligations.CommandsOtherThanTickArePure : Prop :=
  ∀ (i : Instr) (s : State), i ≠ .tick →
    ∃ t status res, exec i s = .next t ∧ s.Answered t status res ∧ s.Pure t

/-- R97: the mapper never reads the two auxiliary axes and the three buttons other than the arming one, and on the
failsafe path no snapshot field at all: changing them changes no outcome of any command. -/
def Obligations.UnreadInputsHaveNoEffect : Prop :=
  ∀ (i : Instr) (s : State) (snap : Snapshot),
    (s.inp.inPresent = true → s.inp.snap.AgreeOnRead s.par snap) →
    ∃ t, exec i s = .next t ∧ exec i (s.withSnap snap) = .next (t.withSnap snap)

/-- The MODEL'S OWN counter of free values (log 7, a DESIGN CHOICE; U3 gives "any value"): a command takes a free value
only when it runs the mapper on a present input whose rudder reading lies outside its range. No statement here rests on
any one free value: each holds for all of them. -/
def Obligations.OnlyUnspecifiedRudderTakesFreeValue : Prop :=
  ∀ (i : Instr) (s : State), ∃ t, exec i s = .next t ∧
    ((i = .map ∨ (i = .tick ∧ s.nextTime ≤ s.inp.now % 2 ^ s.par.timeW)) → s.DrawsFree t) ∧
    (¬ (i = .map ∨ (i = .tick ∧ s.nextTime ≤ s.inp.now % 2 ^ s.par.timeW)) → t.drawn = s.drawn)

/-- R131, R132: ILLEGAL_CMD is raised by reserved codes and by nothing else, DOMAIN by SCALE outside its domain and by
nothing else. -/
def Obligations.ErrorsRaisedOnlyWhereNamed : Prop :=
  ∀ (i : Instr) (s t : State), s.rsp = none → exec i s = .next t →
    ((∃ res, t.rsp = some ⟨.illegalCmd, res⟩) ↔ ∃ code, i = .reserved code) ∧
    ((∃ res, t.rsp = some ⟨.domain, res⟩) ↔ ∃ v a b lo hi, i = .scale v a b lo hi ∧
      ¬ (a.toNat ≤ v.toNat ∧ v.toNat ≤ b.toNat ∧ a.toNat < b.toNat ∧ lo.toNat ≤ hi.toNat))

/-- R130: an error response has result 0 and is precise: but for the response itself, the state after the command is
the state before it. -/
def Obligations.ErrorResponsesArePrecise : Prop :=
  ∀ (i : Instr) (s t : State) (r : Response), s.rsp = none → exec i s = .next t → t.rsp = some r →
    r.status ≠ .ok → r.res = 0 ∧ { t with rsp := s.rsp, responses := s.responses, busy := s.busy } = s

/-! ## The scale function and the CRC -/

/-- R101: `scale` on its domain: its end points and its monotonicity. -/
def Obligations.ScaleBoundaryAndMonotone : Prop :=
  ∀ a b lo hi : Nat, a < b → lo ≤ hi →
    scale a a b lo hi = lo ∧ scale b a b lo hi = hi ∧
    ∀ v v' : Nat, a ≤ v → v ≤ v' → v' ≤ b → scale v a b lo hi ≤ scale v' a b lo hi

/-- R87: the datapath widths: on 16-bit inputs and 11-bit outputs in the domain the product is below `2^27`, the
quotient at most `hi - lo`, and the result at most `hi`, so that an 11-bit field holds it exactly. -/
def Obligations.ScaleFitsDatapath : Prop :=
  ∀ v a b lo hi : Nat, b < 2 ^ 16 → hi < 2 ^ 11 → a ≤ v → v ≤ b → a < b → lo ≤ hi →
    v - a < 2 ^ 16 ∧ hi - lo < 2 ^ 11 ∧ (v - a) * (hi - lo) < 2 ^ 27 ∧
    (v - a) * (hi - lo) / (b - a) ≤ hi - lo ∧ lo ≤ scale v a b lo hi ∧ scale v a b lo hi ≤ hi ∧
    (scaleChan v a b lo hi).toNat = scale v a b lo hi

/-- R77, R84: the table step is the bitwise step (exclusive OR, then eight iterations of the generator's loop body); on
one byte `Crc8` is the generator's output; and for every byte sequence `Crc8` is the remainder of the message polynomial
times `x^8` on division by the generator polynomial over GF(2). -/
def Obligations.CrcIsPolynomialRemainder : Prop :=
  (∀ c b : Byte, crcUpdate c b = crcShift^[8] (c ^^^ b)) ∧
  (∀ b : Byte, crc8 [b] = crcShift^[8] b ∧ romRead b = crcShift^[8] b) ∧
  ∀ bytes : List Byte, bytePoly (crc8 bytes) = (messagePoly bytes * Polynomial.X ^ 8) %ₘ crcPolynomial

/-- R85: the table is linear. -/
def Obligations.CrcTableIsLinear : Prop :=
  (∀ a b : Byte, crcGen (a ^^^ b) = crcGen a ^^^ crcGen b) ∧ crcGen 0 = 0 ∧
  (∀ n : Nat, crc8 (List.replicate n 0) = 0) ∧ ∀ r b : Byte, crcUpdate r b = romRead r ^^^ romRead b

/-- R112: a change of any one byte among frame bytes 2 to 24 is detected by recomputing the CRC, and a change confined
to bytes 0 and 1, of either or of both, is not. -/
def Obligations.FrameCrcDetectsOneByteChange : Prop :=
  ∀ v : Channels,
    (∀ (k : Fin 26) (x : Byte), 2 ≤ k.val → k.val ≤ 24 → x ≠ (encodeFrame v)[k] →
      crc8 ((((encodeFrame v).set k x).toList.drop 2).take 23) ≠ (encodeFrame v)[25]) ∧
    ∀ x y : Byte,
      crc8 (((((encodeFrame v).set 0 x).set 1 y).toList.drop 2).take 23) = (encodeFrame v)[25]

/-- R76: the host's loop for the pseudo-instruction CRC8, from any state, ends with `Crc8` of its bytes in `res[7:0]`,
one OK response a byte, and no state of the block written. -/
def Obligations.Crc8LoopComputesCrc : Prop :=
  ∀ (s : State) (bytes : List Byte), bytes ≠ [] →
    ∃ t, crc8Host 0 bytes s = .next t ∧ t.rspByte = crc8 bytes ∧ s.Pure t ∧
      t.responses.length = s.responses.length + bytes.length ∧
      ∀ r ∈ t.responses.take bytes.length, r.status = .ok

/-! ## The frame -/

/-- R110: unpacking bytes 3 to 24 of a frame gives its channel vector back. -/
def Obligations.UnpackOfEncodedFrame : Prop :=
  ∀ v : Channels, unpack (framePayload (encodeFrame v)) = v

/-- R74: the payload byte map, row by row; `{a, b}` of R10 is `a ++ b`. -/
def Obligations.PayloadByteMap : Prop :=
  ∀ v : Channels,
    let f := encodeFrame v
    f[3] = v[0].extractLsb' 0 8 ∧
    f[4] = v[1].extractLsb' 0 5 ++ v[0].extractLsb' 8 3 ∧
    f[5] = v[2].extractLsb' 0 2 ++ v[1].extractLsb' 5 6 ∧
    f[6] = v[2].extractLsb' 2 8 ∧
    f[7] = v[3].extractLsb' 0 7 ++ v[2].extractLsb' 10 1 ∧
    f[8] = v[4].extractLsb' 0 4 ++ v[3].extractLsb' 7 4 ∧
    f[9] = v[5].extractLsb' 0 1 ++ v[4].extractLsb' 4 7 ∧
    f[10] = v[5].extractLsb' 1 8 ∧
    f[11] = v[6].extractLsb' 0 6 ++ v[5].extractLsb' 9 2 ∧
    f[12] = v[7].extractLsb' 0 3 ++ v[6].extractLsb' 6 5 ∧
    f[13] = v[7].extractLsb' 3 8 ∧
    f[14] = v[8].extractLsb' 0 8 ∧
    f[15] = v[9].extractLsb' 0 5 ++ v[8].extractLsb' 8 3 ∧
    f[16] = v[10].extractLsb' 0 2 ++ v[9].extractLsb' 5 6 ∧
    f[17] = v[10].extractLsb' 2 8 ∧
    f[18] = v[11].extractLsb' 0 7 ++ v[10].extractLsb' 10 1 ∧
    f[19] = v[12].extractLsb' 0 4 ++ v[11].extractLsb' 7 4 ∧
    f[20] = v[13].extractLsb' 0 1 ++ v[12].extractLsb' 4 7 ∧
    f[21] = v[13].extractLsb' 1 8 ∧
    f[22] = v[14].extractLsb' 0 6 ++ v[13].extractLsb' 9 2 ∧
    f[23] = v[15].extractLsb' 0 3 ++ v[14].extractLsb' 6 5 ∧
    f[24] = v[15].extractLsb' 3 8

/-- R102 to R106: the encoder's frame is the one the rules describe bit by bit. -/
def Obligations.EncodeFrameMeetsFormat : Prop :=
  ∀ v : Channels, FrameOf v (encodeFrame v)

/-! ## Steps -/

/-- R60: when the block is ready and a command is presented, the step is that command's meaning, run with `busy` set,
no response presented (log 11) and the command taken off the port; then the host puts its next values on the ports
(log 1, DESIGN CHOICE). -/
def Obligations.StepRunsAcceptedCommand : Prop :=
  ∀ s : State, s.inp.rst = false → s.phase = .idle → s.busy = false → s.inp.cmdValid = true →
    (decode s.inp.cmd s.inp.opnd).wellFormed = true ∧
    step s =
      match exec (decode s.inp.cmd s.inp.opnd)
          { s with busy := true, rsp := none, inp := { s.inp with cmdValid := false } } with
      | .next t => .next { t with inp := t.upcoming.headD t.inp, upcoming := t.upcoming.tail }
      | .fault r => .fault r
      | .refused r => .refused r

/-- R38, R144, R145: a step with `rst = 1` gives the block its reset values whatever it was doing, answers nothing,
sends nothing, and the outputs are low while `rst` is high. That a response given in the step before stays given, though
no port shows it, is log 14 (DESIGN CHOICE). -/
def Obligations.ResetStepSetsResetValues : Prop :=
  ∀ s : State, s.inp.rst = true →
    s.cmdReady = false ∧ s.rspValid = false ∧ s.txValid = false ∧
    ∃ t, step s = .next t ∧ (∀ i : Fin 16, t.ch[i] = 991) ∧ (∀ k : Fin 26, t.fb[k] = 0) ∧ t.nextTime = 0 ∧
      t.phase = .idle ∧ t.busy = false ∧ t.rsp = none ∧ t.responses = s.responses ∧ t.sent = s.sent ∧ t.par = s.par

/-- R119, R33: while a TICK holds and the transport is not ready, a step changes nothing of the block, starts no command
whatever the host presents, and answers nothing. That the response port is silent after the step is log 11 (DEDUCED). -/
def Obligations.HeldTickWaits : Prop :=
  ∀ (s : State) (u : Nat), s.inp.rst = false → s.phase = .emit u → s.inp.txReady = false →
    s.txValid = true ∧
    ∃ t, step s = .next t ∧ s.SameBlock t ∧ t.rsp = none ∧ t.responses = s.responses ∧ t.sent = s.sent

/-- R119 to R121: when the transport accepts a held frame, that frame is transferred with the clock sample of its TICK,
the pacer is rescheduled from the sample that `RESCHED_SAMPLE` names, and the TICK responds 1. That the phase carries the
sample is log 4 (DEDUCED), and that the transfer has a moment of its own is log 1 (DESIGN CHOICE). -/
def Obligations.HeldTickTransfers : Prop :=
  ∀ (s : State) (u : Nat), s.inp.rst = false → s.phase = .emit u → s.inp.txReady = true →
    ∃ t, step s = .next t ∧ t.sent = ⟨u, s.fb⟩ :: s.sent ∧ t.phase = .idle ∧ t.ch = s.ch ∧ t.fb = s.fb ∧
      s.Answered t .ok 1 ∧
      t.nextTime = match s.par.resched with
        | .atCheck => (u + 4000) % 2 ^ s.par.timeW
        | .afterTx => (s.inp.now % 2 ^ s.par.timeW + 4000) % 2 ^ s.par.timeW

/-- R143: with no reset, no TICK in progress and no command presented, the block holds its state. That a response
presented before the step is no longer presented after it is log 11 (DEDUCED). -/
def Obligations.IdleStepHoldsState : Prop :=
  ∀ s : State, s.inp.rst = false → s.phase = .idle → s.inp.cmdValid = false →
    ∃ t, step s = .next t ∧ s.SameBlock t ∧ t.rsp = none ∧ t.responses = s.responses ∧ t.sent = s.sent

/-- R157: the block never stops by itself. -/
def Obligations.StepNeverStops : Prop :=
  ∀ s : State, ∃ t, step s = .next t

/-- R151: with a transport that never accepts and no reset, a TICK in EMIT never completes: after any number of steps
it still holds, with the same frame presented and nothing answered or sent. -/
def Obligations.DeadTransportNeverCompletes : Prop :=
  ∀ (n : Nat) (s : State) (u : Nat), s.phase = .emit u → s.busy = true → s.TransportDead →
    ∃ t, core.run n s = .next t ∧ t.phase = .emit u ∧ t.fb = s.fb ∧ t.nextTime = s.nextTime ∧
      t.responses = s.responses ∧ t.sent = s.sent ∧ State.cmdReady t = false ∧ State.txValid t = true

/-- R72, R128: a step answers at most one command, and appends exactly that response; every accepted command is
answered in its own step, unless it is a TICK that holds. That the step ends the command is log 1, that its response counts
as given whatever the host does next is log 14, and that the port falls silent in the next step is log 11. -/
def Obligations.OneResponsePerCommand : Prop :=
  ∀ s t : State, s.inp.rst = false → step s = .next t →
    ((t.rsp = none ∧ t.responses = s.responses) ∨ ∃ r, t.rsp = some r ∧ t.responses = r :: s.responses) ∧
    ∀ i, s.phase = .idle → s.accepted = some i →
      (t.rsp = none ↔ i = .tick ∧ s.inp.txReady = false ∧ s.nextTime ≤ s.inp.now % 2 ^ s.par.timeW)

/-- R127, second sentence: a step changes the channels, the frame buffer, `next_time` or the phase only by a reset or
by a TICK, accepted now or held. -/
def Obligations.OnlyTickAndResetWriteState : Prop :=
  ∀ s t : State, step s = .next t → s.inp.rst = false → s.phase = .idle → s.accepted ≠ some .tick →
    t.ch = s.ch ∧ t.fb = s.fb ∧ t.nextTime = s.nextTime ∧ t.phase = s.phase ∧ t.sent = s.sent

/-- R29: no step changes a parameter. -/
def Obligations.ParametersNeverChange : Prop :=
  ∀ s t : State, step s = .next t → t.par = s.par

/-- R152 (a): a TICK emitted within one interval of the wrap leaves a `next_time` at or below its own clock value, so
that the pacer is due again at once. Under AFTER_TX too the reschedule reads the acceptance sample here, because the
transfer happens in the accepting step: log 1 (DESIGN CHOICE). -/
def Obligations.RescheduleWrapsToDueAtOnce : Prop :=
  ∀ s : State, s.par.Legal → s.nextTime ≤ s.inp.now % 2 ^ s.par.timeW → s.inp.txReady = true →
    2 ^ s.par.timeW ≤ s.inp.now % 2 ^ s.par.timeW + 4000 →
    ∃ t, exec .tick s = .next t ∧ t.nextTime = s.inp.now % 2 ^ s.par.timeW + 4000 - 2 ^ s.par.timeW ∧
      t.nextTime < 4000 ∧ t.Due

/-! ## Reset and the invariants every step keeps -/

/-- R144: the state after reset. `cmd_ready = 1` rests on log 5 (DESIGN CHOICE): `State.reset` has `rst` released. -/
def Obligations.ResetState : Prop :=
  (∀ i : Fin 16, State.reset.ch[i] = 991) ∧ (∀ k : Fin 26, State.reset.fb[k] = 0x00) ∧
  State.reset.nextTime = 0 ∧ State.reset.phase = .idle ∧ State.reset.busy = false ∧
  State.reset.cmdReady = true ∧ State.reset.rspValid = false ∧ State.reset.txValid = false

/-- The reset state meets every invariant stated below, and its parameters are legal (R9). -/
def Obligations.ResetMeetsInvariants : Prop :=
  State.reset.par.Legal ∧ State.reset.HandshakeOk ∧ State.reset.TimesOk ∧ State.reset.AuxOk ∧
  State.reset.SentOk ∧ State.reset.Paced ∧ State.reset.ClockDuty

/-- R25, R60: between steps `busy` is 1 exactly while a TICK holds in EMIT. -/
def Obligations.StepKeepsHandshake : Prop :=
  ∀ s t : State, s.HandshakeOk → step s = .next t → t.HandshakeOk

/-- R23, R114, R120: `next_time` stays a `TIME_W`-bit value, and a held TICK was due when it was accepted. -/
def Obligations.StepKeepsTimes : Prop :=
  ∀ s t : State, s.TimesOk → step s = .next t → t.TimesOk

/-- R96: channels 5 to 15 hold 991 at all times, whatever the parameters and the host. -/
def Obligations.StepKeepsAuxCentred : Prop :=
  ∀ s t : State, s.AuxOk → step s = .next t → t.AuxOk

/-- R100: with the rudder parameters of R9, every channel lies in `[172, 1811]` at all times. -/
def Obligations.StepKeepsChannelRange : Prop :=
  ∀ s t : State, s.ChannelsOk → step s = .next t → t.ChannelsOk

/-- R73, R100, R105, R106: every frame ever handed to the transport, and the one presented now, is the encoding of
sixteen channels in `[172, 1811]`. -/
def Obligations.StepKeepsSentFramesValid : Prop :=
  ∀ s t : State, s.SentOk → step s = .next t → t.SentOk

/-- R123: at most one frame per interval, under either `RESCHED_SAMPLE`, while the host keeps the clock monotone, lets
no wrap occur and does not reset. -/
def Obligations.StepKeepsPace : Prop :=
  ∀ s t : State, s.Paced → s.ClockDuty → step s = .next t → t.Paced ∧ t.ClockDuty

/-! ## The output ports -/

/-- R31, R37, R38: the status outputs carry the channels and `next_time`; `tx_valid` is 1 exactly when `rst = 0` and the
phase is EMIT, and then the transmit bus has a value, which carries the frame bytes where the rules put them. That the bus
has no value while `tx_valid` is 0 is log 10 (DEDUCED). -/
def Obligations.OutputPortsShowState : Prop :=
  ∀ s : State,
    (∀ i : Fin 16, s.stCh.extractLsb' (11 * i.val) 11 = s.ch[i]) ∧
    (s.nextTime < 2 ^ s.par.timeW → s.stNextTime.toNat = s.nextTime) ∧
    (s.txValid = true ↔ s.inp.rst = false ∧ ∃ t, s.phase = .emit t) ∧
    (s.txValid = true → ∃ d, s.txData = some d ∧ ∀ k : Fin 26, d.extractLsb' (8 * k.val) 8 = s.fb[k]) ∧
    (s.txValid = false → s.txData = none)

/-- R28, R34, R38, R72: with `rst = 0`, `rsp_valid` is 1 exactly when a response is presented, and then the port carries
its result and its status code: 0 OK, 1 ILLEGAL_CMD, 2 DOMAIN, never 3. With `rst = 1`, `rsp_valid` is 0. That the bus has
no value while `rsp_valid` is 0 is log 10 (DEDUCED). -/
def Obligations.ResponsePortShowsResponse : Prop :=
  ∀ s : State,
    (s.rspValid = true ↔ s.inp.rst = false ∧ ∃ r, s.rsp = some r) ∧
    (∀ r, s.inp.rst = false → s.rsp = some r →
      ∃ code : BitVec 2, s.rspPort = some (code, r.res) ∧ code ≠ 3 ∧
        (code = 0 ↔ r.status = .ok) ∧ (code = 1 ↔ r.status = .illegalCmd) ∧ (code = 2 ↔ r.status = .domain)) ∧
    (s.rspValid = false → s.rspPort = none)
end

