-- ==== Sys2Proof/Laws/Bits.lean ====
section
/-! SUPPORT. The bus layout of R12: joining fields and splitting a bus are inverse to one another, and each field lies
where the rule puts it. -/

namespace Sys2Proof.Machine

theorem fieldSum_lt {w : Nat} (xs : List (BitVec w)) : fieldSum xs < 2 ^ (w * xs.length) := by
  induction xs with
  | nil => simp [fieldSum]
  | cons x xs ih =>
    have hx := x.isLt
    have hp : (2 : Nat) ^ (w * (xs.length + 1)) = 2 ^ w * 2 ^ (w * xs.length) := by
      rw [Nat.mul_succ, Nat.add_comm, Nat.pow_add]
    have hm : 2 ^ w * (fieldSum xs + 1) ≤ 2 ^ w * 2 ^ (w * xs.length) := Nat.mul_le_mul_left _ ih
    simp only [fieldSum, List.length_cons, hp]
    rw [Nat.mul_succ] at hm
    omega

/-- Field `i` of a sum of fields is the `i`-th item. -/
theorem fieldSum_field {w : Nat} (xs : List (BitVec w)) (i : Nat) (h : i < xs.length) :
    fieldSum xs / 2 ^ (w * i) % 2 ^ w = (xs[i]).toNat := by
  induction xs generalizing i with
  | nil => simp at h
  | cons x xs ih =>
    cases i with
    | zero => simp [fieldSum, Nat.add_mul_mod_self_left, Nat.mod_eq_of_lt x.isLt]
    | succ i =>
      have hp : (2 : Nat) ^ (w * (i + 1)) = 2 ^ w * 2 ^ (w * i) := by
        rw [Nat.mul_succ, Nat.add_comm, Nat.pow_add]
      have hd : fieldSum (x :: xs) / 2 ^ w = fieldSum xs := by
        simp only [fieldSum]
        rw [Nat.add_mul_div_left _ _ (Nat.two_pow_pos w), Nat.div_eq_of_lt x.isLt, Nat.zero_add]
      rw [hp, ← Nat.div_div_eq_div_mul, hd]
      exact ih i (by simpa using h)

theorem toNat_joinFields {w n : Nat} (v : Vector (BitVec w) n) : (joinFields v).toNat = fieldSum v.toList := by
  have h := fieldSum_lt v.toList
  rw [Vector.length_toList] at h
  exact Nat.mod_eq_of_lt h

/-- Field `i` of the bus of `v` is `v[i]` (R12). -/
theorem extract_joinFields {w n : Nat} (v : Vector (BitVec w) n) (i : Nat) (h : i < n) :
    (joinFields v).extractLsb' (w * i) w = v[i] := by
  apply BitVec.eq_of_toNat_eq
  rw [BitVec.extractLsb'_toNat, toNat_joinFields, Nat.shiftRight_eq_div_pow,
    fieldSum_field _ i (by simpa using h)]
  simp

theorem getElem_splitFields {w n : Nat} (bus : BitVec (w * n)) (i : Nat) (h : i < n) :
    (splitFields w n bus)[i] = bus.extractLsb' (w * i) w := by
  simp [splitFields]

/-- Splitting the bus of `v` gives `v`. -/
theorem splitFields_joinFields {w n : Nat} (v : Vector (BitVec w) n) : splitFields w n (joinFields v) = v := by
  ext i h : 1
  rw [getElem_splitFields, extract_joinFields]

/-- Bit `j` of the bus of `v` is bit `j mod w` of field `j / w`. -/
theorem getLsbD_joinFields {w n : Nat} (v : Vector (BitVec w) n) (j : Nat) (hw : 0 < w) (h : j < w * n) :
    (joinFields v).getLsbD j = (v[j / w]'(Nat.div_lt_of_lt_mul h)).getLsbD (j % w) := by
  rw [← extract_joinFields v (j / w) (Nat.div_lt_of_lt_mul h), BitVec.getLsbD_extractLsb',
    Nat.div_add_mod]
  simp [Nat.mod_lt j hw]

/-- Joining the fields of a bus gives the bus. -/
theorem joinFields_splitFields {w n : Nat} (hw : 0 < w) (bus : BitVec (w * n)) :
    joinFields (splitFields w n bus) = bus := by
  apply BitVec.eq_of_getLsbD_eq
  intro j h
  rw [getLsbD_joinFields _ j hw h, getElem_splitFields, BitVec.getLsbD_extractLsb', Nat.div_add_mod]
  simp [Nat.mod_lt j hw]

/-- The channels on the bus of `v` are `v` (R12). -/
theorem busChannels_channelBus (v : Channels) : busChannels (channelBus v) = v := splitFields_joinFields v

/-- The bus of the channels on a bus is that bus. -/
theorem channelBus_busChannels (bus : BitVec 176) : channelBus (busChannels bus) = bus :=
  joinFields_splitFields (w := 11) (n := 16) (by decide) bus

/-- The payload on the bus of `p` is `p` (R12). -/
theorem busPayload_payloadBus (p : Payload) : busPayload (payloadBus p) = p := splitFields_joinFields p

/-- The bus of the payload on a bus is that bus. -/
theorem payloadBus_busPayload (bus : BitVec 176) : payloadBus (busPayload bus) = bus :=
  joinFields_splitFields (w := 8) (n := 22) (by decide) bus

/-- Channel `i` on a bus (R12). -/
theorem busChannels_getElem (bus : BitVec 176) (i : Nat) (h : i < 16) :
    (busChannels bus)[i] = bus.extractLsb' (11 * i) 11 :=
  getElem_splitFields (w := 11) (n := 16) bus i h

/-- Field `i` of the bus of a channel vector (R12). -/
theorem channelBus_extract (v : Channels) (i : Nat) (h : i < 16) :
    (channelBus v).extractLsb' (11 * i) 11 = v[i] := extract_joinFields v i h

/-- Byte `k` of the bus of a frame (R37). -/
theorem frameBus_extract (f : Frame) (k : Nat) (h : k < 26) :
    (frameBus f).extractLsb' (8 * k) 8 = f[k] := extract_joinFields f k h

end Sys2Proof.Machine
end

