-- ==== Sys2Proof/Laws/Codec.lean ====
section
/-! SUPPORT. Each operand format gives back the fields it was written from (R63 to R67), and each code selects its
command (R61). -/

namespace Sys2Proof.Machine

theorem fsValue_fsBus (v a b : Reading) (lo hi : Chan) : fsValue (fsBus v a b lo hi) = v := by
  apply BitVec.eq_of_getLsbD_eq
  intro j h
  simp only [fsValue, fsBus, BitVec.getLsbD_extractLsb', BitVec.getLsbD_setWidth, BitVec.getLsbD_append]
  simp [h]
  omega

theorem fsInMin_fsBus (v a b : Reading) (lo hi : Chan) : fsInMin (fsBus v a b lo hi) = a := by
  apply BitVec.eq_of_getLsbD_eq
  intro j h
  simp only [fsInMin, fsBus, BitVec.getLsbD_extractLsb', BitVec.getLsbD_setWidth, BitVec.getLsbD_append]
  simp [h]
  omega

theorem fsInMax_fsBus (v a b : Reading) (lo hi : Chan) : fsInMax (fsBus v a b lo hi) = b := by
  apply BitVec.eq_of_getLsbD_eq
  intro j h
  simp only [fsInMax, fsBus, BitVec.getLsbD_extractLsb', BitVec.getLsbD_setWidth, BitVec.getLsbD_append]
  have h1 : ¬ 32 + j < 16 := by omega
  have h2 : ¬ 32 + j - 16 < 16 := by omega
  have h3 : 32 + j - 16 - 16 < 16 := by omega
  have h4 : 32 + j - 16 - 16 = j := by omega
  simp [h, h1, h2, h4]
  omega

theorem fsOutMin_fsBus (v a b : Reading) (lo hi : Chan) : fsOutMin (fsBus v a b lo hi) = lo := by
  apply BitVec.eq_of_getLsbD_eq
  intro j h
  simp only [fsOutMin, fsBus, BitVec.getLsbD_extractLsb', BitVec.getLsbD_setWidth, BitVec.getLsbD_append]
  have h1 : ¬ 48 + j < 16 := by omega
  have h2 : ¬ 48 + j - 16 < 16 := by omega
  have h3 : ¬ 48 + j - 16 - 16 < 16 := by omega
  have h4 : 48 + j - 16 - 16 - 16 = j := by omega
  simp [h, h1, h2, h3, h4]
  omega

theorem fsOutMax_fsBus (v a b : Reading) (lo hi : Chan) : fsOutMax (fsBus v a b lo hi) = hi := by
  apply BitVec.eq_of_getLsbD_eq
  intro j h
  simp only [fsOutMax, fsBus, BitVec.getLsbD_extractLsb', BitVec.getLsbD_setWidth, BitVec.getLsbD_append]
  have h1 : ¬ 59 + j < 16 := by omega
  have h2 : ¬ 59 + j - 16 < 16 := by omega
  have h3 : ¬ 59 + j - 16 - 16 < 16 := by omega
  have h4 : ¬ 59 + j - 16 - 16 - 16 < 11 := by omega
  have h5 : 59 + j - 16 - 16 - 16 - 11 = j := by omega
  simp [h, h1, h2, h3, h4, h5]
  omega

theorem flIdx_flBus (idx : Byte) : flIdx (flBus idx) = idx := by
  apply BitVec.eq_of_getLsbD_eq
  intro j h
  simp only [flIdx, flBus, BitVec.getLsbD_extractLsb', BitVec.getLsbD_setWidth]
  simp [h]
  omega

theorem fcCrc_fcBus (crc b : Byte) : fcCrc (fcBus crc b) = crc := by
  apply BitVec.eq_of_getLsbD_eq
  intro j h
  simp only [fcCrc, fcBus, BitVec.getLsbD_extractLsb', BitVec.getLsbD_setWidth, BitVec.getLsbD_append]
  simp [h]
  omega

theorem fcByte_fcBus (crc b : Byte) : fcByte (fcBus crc b) = b := by
  apply BitVec.eq_of_getLsbD_eq
  intro j h
  simp only [fcByte, fcBus, BitVec.getLsbD_extractLsb', BitVec.getLsbD_setWidth, BitVec.getLsbD_append]
  simp [h]
  omega

theorem fvChannels_fvBus (v : Channels) : fvChannels (fvBus v) = v := busChannels_channelBus v

theorem fpPayload_fpBus (p : Payload) : fpPayload (fpBus p) = p := busPayload_payloadBus p

theorem fvBus_fvChannels (o : Operand) : fvBus (fvChannels o) = o :=
  channelBus_busChannels o

theorem fpBus_fpPayload (o : Operand) : fpBus (fpPayload o) = o :=
  payloadBus_busPayload o

end Sys2Proof.Machine
end

