-- ==== Sys2Proof/Laws/Frame.lean ====
section
/-! SUPPORT. The bytes of an encoded frame, one by one (R73), so that no proof unfolds the frame. -/

namespace Sys2Proof.Machine

/-- Frame bytes around a payload: the header, the payload, the CRC (R73). -/
theorem frameOfPayload_getElem (p : Payload) (k : Nat) (h : k < 26) :
    (frameOfPayload p)[k] =
      if h3 : k < 3 then #v[Config.addrByte, Config.lenByte, Config.typeByte][k]
      else if h25 : k < 25 then p[k - 3]'(by omega)
      else crc8 (crcCovered p) := by
  unfold frameOfPayload
  by_cases h25 : k < 25
  · rw [Vector.getElem_append_left (hi := by omega)]
    by_cases h3 : k < 3
    · rw [Vector.getElem_append_left (hi := h3), dif_pos h3]
    · rw [Vector.getElem_append_right (by omega) (by omega), dif_neg h3, dif_pos h25]
  · rw [Vector.getElem_append_right (by omega) (by omega), dif_neg (by omega), dif_neg h25]
    simp

theorem encodeFrame_addr (v : Channels) : (encodeFrame v)[0] = 0xEE := by
  rw [encodeFrame, frameOfPayload_getElem, dif_pos (by decide)]
  rfl

theorem encodeFrame_len (v : Channels) : (encodeFrame v)[1] = 0x18 := by
  rw [encodeFrame, frameOfPayload_getElem, dif_pos (by decide)]
  rfl

theorem encodeFrame_type (v : Channels) : (encodeFrame v)[2] = 0x16 := by
  rw [encodeFrame, frameOfPayload_getElem, dif_pos (by decide)]
  rfl

/-- Frame bytes 3 to 24 are the payload (R103). -/
theorem encodeFrame_payload (v : Channels) (k : Nat) (h : k < 22) :
    (encodeFrame v)[3 + k] = (payloadOf v)[k] := by
  rw [encodeFrame, frameOfPayload_getElem, dif_neg (by omega), dif_pos (by omega)]
  congr 1
  omega

/-- Frame byte 25 is the CRC of the type byte and the payload (R105). -/
theorem encodeFrame_crc (v : Channels) : (encodeFrame v)[25] = crc8 (crcCovered (payloadOf v)) := by
  rw [encodeFrame, frameOfPayload_getElem, dif_neg (by decide), dif_neg (by decide)]

/-- Frame bytes 2 to 24 are the bytes the CRC covers (R105). -/
theorem encodeFrame_covered (v : Channels) :
    ((encodeFrame v).toList.drop 2).take 23 = crcCovered (payloadOf v) := by
  apply List.ext_getElem
  · simp [crcCovered]
  · intro k h1 h2
    have hk : k < 23 := by simp [crcCovered] at h2; omega
    rw [List.getElem_take, List.getElem_drop]
    have e : ∀ h, (encodeFrame v).toList[2 + k]'h = (encodeFrame v)[2 + k]'(by omega) := fun _ =>
      Vector.getElem_toList _
    rw [e]
    cases k with
    | zero => exact encodeFrame_type v
    | succ k =>
      have := encodeFrame_payload v k (by omega)
      simp only [show 2 + (k + 1) = 3 + k by omega, this, crcCovered, List.getElem_cons_succ,
        Vector.getElem_toList]

/-- Payload byte `k` is bits `8k` to `8k+7` of the channel bus (R103). -/
theorem payloadOf_getElem (v : Channels) (k : Nat) (h : k < 22) :
    (payloadOf v)[k] = (channelBus v).extractLsb' (8 * k) 8 :=
  getElem_splitFields (w := 8) (n := 22) (channelBus v) k h

/-- Bit `j` of the channel bus is bit `j mod 11` of channel `j / 11` (R102). -/
theorem channelBus_getLsbD (v : Channels) (j : Nat) (h : j < 176) :
    (channelBus v).getLsbD j = (v[j / 11]).getLsbD (j % 11) :=
  getLsbD_joinFields v j (by decide) h

/-- Frame bytes 0 and 1 are outside what a drop of two bytes keeps (R105). -/
theorem frame_set_header_drop (f : Frame) (x y : Byte) : ((f.set 0 x).set 1 y).toList.drop 2 = f.toList.drop 2 := by
  apply List.ext_getElem
  · simp
  · intro i _ _
    have h1 : ¬ 1 = 2 + i := by omega
    have h0 : ¬ 0 = 2 + i := by omega
    simp [Vector.getElem_set, h0, h1]

end Sys2Proof.Machine
end

