-- ==== Sys2Proof/Laws/Mapper.lean ====
section
/-! SUPPORT. Where each channel of the mapper comes from (R90 to R96). -/

namespace Sys2Proof.Machine

/-- Channel `i` of the failsafe vector (R90). -/
theorem failsafe_getElem (i : Nat) (h : i < 16) :
    failsafe[i] = if i = 1 ∨ i = 4 then chan Config.chMin else chan Config.chMid := by
  simp only [failsafe, Vector.getElem_set, Vector.getElem_replicate]
  by_cases h1 : i = 1 <;> by_cases h4 : i = 4 <;> simp [h1, h4, eq_comm]

/-- Channel `i` of the live vector (R91 to R96). -/
theorem live_getElem (par : Params) (free : Chan) (prev : Channels) (snap : Snapshot) (i : Nat) (h : i < 16) :
    (live par free prev snap)[i] =
      if i = 0 then rudderChan par free snap.rudder
      else if i = 1 then throttleChan snap.brake snap.throttle
      else if i = 2 then axisChan snap.roll
      else if i = 3 then axisChan snap.pitch
      else if i = 4 then armChan snap.btn[par.armBtn]
      else prev[i] := by
  simp only [live, Vector.getElem_set]
  rcases i with _ | _ | _ | _ | _ | i <;> simp

/-- The mapper on an absent input (R89, R90). -/
theorem mapper_absent (par : Params) (free : Chan) (prev : Channels) (snap : Snapshot) :
    mapper par free prev false snap = failsafe := rfl

/-- The mapper on a present input (R89). -/
theorem mapper_present (par : Params) (free : Chan) (prev : Channels) (snap : Snapshot) :
    mapper par free prev true snap = live par free prev snap := rfl

end Sys2Proof.Machine
end

