-- ==== Sys2Proof/Laws/State.lean ====
section
/-! SUPPORT. One lemma per field per update of the state, so that no proof unfolds a record update. -/

namespace Sys2Proof.Machine

/-! The response port falls silent. -/

@[simp] theorem State.clearRsp_ch (s : State) : (s.clearRsp).ch = s.ch := rfl
@[simp] theorem State.clearRsp_fb (s : State) : (s.clearRsp).fb = s.fb := rfl
@[simp] theorem State.clearRsp_nextTime (s : State) : (s.clearRsp).nextTime = s.nextTime := rfl
@[simp] theorem State.clearRsp_phase (s : State) : (s.clearRsp).phase = s.phase := rfl
@[simp] theorem State.clearRsp_busy (s : State) : (s.clearRsp).busy = s.busy := rfl
@[simp] theorem State.clearRsp_rsp (s : State) : (s.clearRsp).rsp = none := rfl
@[simp] theorem State.clearRsp_inp (s : State) : (s.clearRsp).inp = s.inp := rfl
@[simp] theorem State.clearRsp_upcoming (s : State) : (s.clearRsp).upcoming = s.upcoming := rfl
@[simp] theorem State.clearRsp_par (s : State) : (s.clearRsp).par = s.par := rfl
@[simp] theorem State.clearRsp_sent (s : State) : (s.clearRsp).sent = s.sent := rfl
@[simp] theorem State.clearRsp_responses (s : State) : (s.clearRsp).responses = s.responses := rfl
@[simp] theorem State.clearRsp_drawn (s : State) : (s.clearRsp).drawn = s.drawn := rfl

/-! Acceptance (R60). -/

@[simp] theorem State.accept_ch (s : State) : (s.accept).ch = s.ch := rfl
@[simp] theorem State.accept_fb (s : State) : (s.accept).fb = s.fb := rfl
@[simp] theorem State.accept_nextTime (s : State) : (s.accept).nextTime = s.nextTime := rfl
@[simp] theorem State.accept_phase (s : State) : (s.accept).phase = s.phase := rfl
@[simp] theorem State.accept_busy (s : State) : (s.accept).busy = true := rfl
@[simp] theorem State.accept_rsp (s : State) : (s.accept).rsp = none := rfl
@[simp] theorem State.accept_inp (s : State) : (s.accept).inp = { s.inp with cmdValid := false } := rfl
@[simp] theorem State.accept_upcoming (s : State) : (s.accept).upcoming = s.upcoming := rfl
@[simp] theorem State.accept_par (s : State) : (s.accept).par = s.par := rfl
@[simp] theorem State.accept_sent (s : State) : (s.accept).sent = s.sent := rfl
@[simp] theorem State.accept_responses (s : State) : (s.accept).responses = s.responses := rfl
@[simp] theorem State.accept_drawn (s : State) : (s.accept).drawn = s.drawn := rfl

/-! Respond (R72). -/

@[simp] theorem State.respond_ch (s : State) (st : Status) (r : Result) : (s.respond st r).ch = s.ch := rfl
@[simp] theorem State.respond_fb (s : State) (st : Status) (r : Result) : (s.respond st r).fb = s.fb := rfl
@[simp] theorem State.respond_nextTime (s : State) (st : Status) (r : Result) : (s.respond st r).nextTime = s.nextTime := rfl
@[simp] theorem State.respond_phase (s : State) (st : Status) (r : Result) : (s.respond st r).phase = s.phase := rfl
@[simp] theorem State.respond_busy (s : State) (st : Status) (r : Result) : (s.respond st r).busy = false := rfl
@[simp] theorem State.respond_rsp (s : State) (st : Status) (r : Result) : (s.respond st r).rsp = some ⟨st, r⟩ := rfl
@[simp] theorem State.respond_inp (s : State) (st : Status) (r : Result) : (s.respond st r).inp = s.inp := rfl
@[simp] theorem State.respond_upcoming (s : State) (st : Status) (r : Result) : (s.respond st r).upcoming = s.upcoming := rfl
@[simp] theorem State.respond_par (s : State) (st : Status) (r : Result) : (s.respond st r).par = s.par := rfl
@[simp] theorem State.respond_sent (s : State) (st : Status) (r : Result) : (s.respond st r).sent = s.sent := rfl
@[simp] theorem State.respond_responses (s : State) (st : Status) (r : Result) : (s.respond st r).responses = ⟨st, r⟩ :: s.responses := rfl
@[simp] theorem State.respond_drawn (s : State) (st : Status) (r : Result) : (s.respond st r).drawn = s.drawn := rfl

/-! Error responses (R130). -/

@[simp] theorem State.raiseError_ch (s : State) (e : Status) : (s.raiseError e).ch = s.ch := rfl
@[simp] theorem State.raiseError_fb (s : State) (e : Status) : (s.raiseError e).fb = s.fb := rfl
@[simp] theorem State.raiseError_nextTime (s : State) (e : Status) : (s.raiseError e).nextTime = s.nextTime := rfl
@[simp] theorem State.raiseError_phase (s : State) (e : Status) : (s.raiseError e).phase = s.phase := rfl
@[simp] theorem State.raiseError_busy (s : State) (e : Status) : (s.raiseError e).busy = false := rfl
@[simp] theorem State.raiseError_rsp (s : State) (e : Status) : (s.raiseError e).rsp = some ⟨e, zeroResult⟩ := rfl
@[simp] theorem State.raiseError_inp (s : State) (e : Status) : (s.raiseError e).inp = s.inp := rfl
@[simp] theorem State.raiseError_upcoming (s : State) (e : Status) : (s.raiseError e).upcoming = s.upcoming := rfl
@[simp] theorem State.raiseError_par (s : State) (e : Status) : (s.raiseError e).par = s.par := rfl
@[simp] theorem State.raiseError_sent (s : State) (e : Status) : (s.raiseError e).sent = s.sent := rfl
@[simp] theorem State.raiseError_responses (s : State) (e : Status) : (s.raiseError e).responses = ⟨e, zeroResult⟩ :: s.responses := rfl
@[simp] theorem State.raiseError_drawn (s : State) (e : Status) : (s.raiseError e).drawn = s.drawn := rfl

/-! Reschedule (R120). -/

@[simp] theorem State.reschedule_ch (s : State) (t : Nat) : (s.reschedule t).ch = s.ch := rfl
@[simp] theorem State.reschedule_fb (s : State) (t : Nat) : (s.reschedule t).fb = s.fb := rfl
@[simp] theorem State.reschedule_nextTime (s : State) (t : Nat) : (s.reschedule t).nextTime = (s.reschedTime t + Config.interval) % 2 ^ s.par.timeW := rfl
@[simp] theorem State.reschedule_phase (s : State) (t : Nat) : (s.reschedule t).phase = s.phase := rfl
@[simp] theorem State.reschedule_busy (s : State) (t : Nat) : (s.reschedule t).busy = s.busy := rfl
@[simp] theorem State.reschedule_rsp (s : State) (t : Nat) : (s.reschedule t).rsp = s.rsp := rfl
@[simp] theorem State.reschedule_inp (s : State) (t : Nat) : (s.reschedule t).inp = s.inp := rfl
@[simp] theorem State.reschedule_upcoming (s : State) (t : Nat) : (s.reschedule t).upcoming = s.upcoming := rfl
@[simp] theorem State.reschedule_par (s : State) (t : Nat) : (s.reschedule t).par = s.par := rfl
@[simp] theorem State.reschedule_sent (s : State) (t : Nat) : (s.reschedule t).sent = s.sent := rfl
@[simp] theorem State.reschedule_responses (s : State) (t : Nat) : (s.reschedule t).responses = s.responses := rfl
@[simp] theorem State.reschedule_drawn (s : State) (t : Nat) : (s.reschedule t).drawn = s.drawn := rfl

/-! The transfer of a frame (R119 to R121). -/

@[simp] theorem State.transfer_ch (s : State) (t : Nat) : (s.transfer t).ch = s.ch := rfl
@[simp] theorem State.transfer_fb (s : State) (t : Nat) : (s.transfer t).fb = s.fb := rfl
@[simp] theorem State.transfer_nextTime (s : State) (t : Nat) : (s.transfer t).nextTime = (s.reschedTime t + Config.interval) % 2 ^ s.par.timeW := rfl
@[simp] theorem State.transfer_phase (s : State) (t : Nat) : (s.transfer t).phase = .idle := rfl
@[simp] theorem State.transfer_busy (s : State) (t : Nat) : (s.transfer t).busy = false := rfl
@[simp] theorem State.transfer_rsp (s : State) (t : Nat) : (s.transfer t).rsp = some ⟨.ok, emittedResult true⟩ := rfl
@[simp] theorem State.transfer_inp (s : State) (t : Nat) : (s.transfer t).inp = s.inp := rfl
@[simp] theorem State.transfer_upcoming (s : State) (t : Nat) : (s.transfer t).upcoming = s.upcoming := rfl
@[simp] theorem State.transfer_par (s : State) (t : Nat) : (s.transfer t).par = s.par := rfl
@[simp] theorem State.transfer_sent (s : State) (t : Nat) : (s.transfer t).sent = ⟨t, s.fb⟩ :: s.sent := rfl
@[simp] theorem State.transfer_responses (s : State) (t : Nat) : (s.transfer t).responses = ⟨.ok, emittedResult true⟩ :: s.responses := rfl
@[simp] theorem State.transfer_drawn (s : State) (t : Nat) : (s.transfer t).drawn = s.drawn := rfl

/-! Reset (R144). -/

@[simp] theorem State.blockReset_ch (s : State) : (s.blockReset).ch = resetChannels := rfl
@[simp] theorem State.blockReset_fb (s : State) : (s.blockReset).fb = resetFrame := rfl
@[simp] theorem State.blockReset_nextTime (s : State) : (s.blockReset).nextTime = 0 := rfl
@[simp] theorem State.blockReset_phase (s : State) : (s.blockReset).phase = .idle := rfl
@[simp] theorem State.blockReset_busy (s : State) : (s.blockReset).busy = false := rfl
@[simp] theorem State.blockReset_rsp (s : State) : (s.blockReset).rsp = none := rfl
@[simp] theorem State.blockReset_inp (s : State) : (s.blockReset).inp = s.inp := rfl
@[simp] theorem State.blockReset_upcoming (s : State) : (s.blockReset).upcoming = s.upcoming := rfl
@[simp] theorem State.blockReset_par (s : State) : (s.blockReset).par = s.par := rfl
@[simp] theorem State.blockReset_sent (s : State) : (s.blockReset).sent = s.sent := rfl
@[simp] theorem State.blockReset_responses (s : State) : (s.blockReset).responses = s.responses := rfl
@[simp] theorem State.blockReset_drawn (s : State) : (s.blockReset).drawn = s.drawn := rfl

/-! Step (b) of TICK (R118). -/

@[simp] theorem State.encodeStep_ch (s : State) : (s.encodeStep).ch = s.ch := by simp only [State.encodeStep]
@[simp] theorem State.encodeStep_fb (s : State) : (s.encodeStep).fb = encodeFrame s.ch := by simp only [State.encodeStep]
@[simp] theorem State.encodeStep_nextTime (s : State) : (s.encodeStep).nextTime = s.nextTime := by simp only [State.encodeStep]
@[simp] theorem State.encodeStep_phase (s : State) : (s.encodeStep).phase = s.phase := by simp only [State.encodeStep]
@[simp] theorem State.encodeStep_busy (s : State) : (s.encodeStep).busy = s.busy := by simp only [State.encodeStep]
@[simp] theorem State.encodeStep_rsp (s : State) : (s.encodeStep).rsp = s.rsp := by simp only [State.encodeStep]
@[simp] theorem State.encodeStep_inp (s : State) : (s.encodeStep).inp = s.inp := by simp only [State.encodeStep]
@[simp] theorem State.encodeStep_upcoming (s : State) : (s.encodeStep).upcoming = s.upcoming := by simp only [State.encodeStep]
@[simp] theorem State.encodeStep_par (s : State) : (s.encodeStep).par = s.par := by simp only [State.encodeStep]
@[simp] theorem State.encodeStep_sent (s : State) : (s.encodeStep).sent = s.sent := by simp only [State.encodeStep]
@[simp] theorem State.encodeStep_responses (s : State) : (s.encodeStep).responses = s.responses := by simp only [State.encodeStep]
@[simp] theorem State.encodeStep_drawn (s : State) : (s.encodeStep).drawn = s.drawn := by simp only [State.encodeStep]

/-! The counter of free values (log 7). -/

@[simp] theorem State.drawFree_ch (s : State) : (s.drawFree).ch = s.ch := by
  unfold State.drawFree; split <;> rfl
@[simp] theorem State.drawFree_fb (s : State) : (s.drawFree).fb = s.fb := by
  unfold State.drawFree; split <;> rfl
@[simp] theorem State.drawFree_nextTime (s : State) : (s.drawFree).nextTime = s.nextTime := by
  unfold State.drawFree; split <;> rfl
@[simp] theorem State.drawFree_phase (s : State) : (s.drawFree).phase = s.phase := by
  unfold State.drawFree; split <;> rfl
@[simp] theorem State.drawFree_busy (s : State) : (s.drawFree).busy = s.busy := by
  unfold State.drawFree; split <;> rfl
@[simp] theorem State.drawFree_rsp (s : State) : (s.drawFree).rsp = s.rsp := by
  unfold State.drawFree; split <;> rfl
@[simp] theorem State.drawFree_inp (s : State) : (s.drawFree).inp = s.inp := by
  unfold State.drawFree; split <;> rfl
@[simp] theorem State.drawFree_upcoming (s : State) : (s.drawFree).upcoming = s.upcoming := by
  unfold State.drawFree; split <;> rfl
@[simp] theorem State.drawFree_par (s : State) : (s.drawFree).par = s.par := by
  unfold State.drawFree; split <;> rfl
@[simp] theorem State.drawFree_sent (s : State) : (s.drawFree).sent = s.sent := by
  unfold State.drawFree; split <;> rfl
@[simp] theorem State.drawFree_responses (s : State) : (s.drawFree).responses = s.responses := by
  unfold State.drawFree; split <;> rfl
@[simp] theorem State.drawFree_drawn (s : State) : (s.drawFree).drawn = if mapperDraws s.par s.inp.inPresent s.inp.snap then s.drawn + 1 else s.drawn := by
  unfold State.drawFree; split <;> rfl

/-! Step (a) of TICK (R117). -/

@[simp] theorem State.mapStep_ch (s : State) : (s.mapStep).ch = s.mapped := by
  simp [State.mapStep]
@[simp] theorem State.mapStep_fb (s : State) : (s.mapStep).fb = s.fb := by
  simp [State.mapStep]
@[simp] theorem State.mapStep_nextTime (s : State) : (s.mapStep).nextTime = s.nextTime := by
  simp [State.mapStep]
@[simp] theorem State.mapStep_phase (s : State) : (s.mapStep).phase = s.phase := by
  simp [State.mapStep]
@[simp] theorem State.mapStep_busy (s : State) : (s.mapStep).busy = s.busy := by
  simp [State.mapStep]
@[simp] theorem State.mapStep_rsp (s : State) : (s.mapStep).rsp = s.rsp := by
  simp [State.mapStep]
@[simp] theorem State.mapStep_inp (s : State) : (s.mapStep).inp = s.inp := by
  simp [State.mapStep]
@[simp] theorem State.mapStep_upcoming (s : State) : (s.mapStep).upcoming = s.upcoming := by
  simp [State.mapStep]
@[simp] theorem State.mapStep_par (s : State) : (s.mapStep).par = s.par := by
  simp [State.mapStep]
@[simp] theorem State.mapStep_sent (s : State) : (s.mapStep).sent = s.sent := by
  simp [State.mapStep]
@[simp] theorem State.mapStep_responses (s : State) : (s.mapStep).responses = s.responses := by
  simp [State.mapStep]
@[simp] theorem State.mapStep_drawn (s : State) : (s.mapStep).drawn = if mapperDraws s.par s.inp.inPresent s.inp.snap then s.drawn + 1 else s.drawn := by
  simp [State.mapStep]

/-! The host moves (log 1): the ports and what is to come shift by one moment; the block keeps its state. -/

@[simp] theorem State.hostMoves_ch (s : State) : (s.hostMoves).ch = s.ch := by
  unfold State.hostMoves; split <;> simp_all
@[simp] theorem State.hostMoves_fb (s : State) : (s.hostMoves).fb = s.fb := by
  unfold State.hostMoves; split <;> simp_all
@[simp] theorem State.hostMoves_nextTime (s : State) : (s.hostMoves).nextTime = s.nextTime := by
  unfold State.hostMoves; split <;> simp_all
@[simp] theorem State.hostMoves_phase (s : State) : (s.hostMoves).phase = s.phase := by
  unfold State.hostMoves; split <;> simp_all
@[simp] theorem State.hostMoves_busy (s : State) : (s.hostMoves).busy = s.busy := by
  unfold State.hostMoves; split <;> simp_all
@[simp] theorem State.hostMoves_rsp (s : State) : (s.hostMoves).rsp = s.rsp := by
  unfold State.hostMoves; split <;> simp_all
@[simp] theorem State.hostMoves_inp (s : State) : (s.hostMoves).inp = s.moments.tail.headD s.inp := by
  unfold State.hostMoves; split <;> simp_all [State.moments]
@[simp] theorem State.hostMoves_upcoming (s : State) : (s.hostMoves).upcoming = s.moments.tail.tail := by
  unfold State.hostMoves; split <;> simp_all [State.moments]
@[simp] theorem State.hostMoves_par (s : State) : (s.hostMoves).par = s.par := by
  unfold State.hostMoves; split <;> simp_all
@[simp] theorem State.hostMoves_sent (s : State) : (s.hostMoves).sent = s.sent := by
  unfold State.hostMoves; split <;> simp_all
@[simp] theorem State.hostMoves_responses (s : State) : (s.hostMoves).responses = s.responses := by
  unfold State.hostMoves; split <;> simp_all
@[simp] theorem State.hostMoves_drawn (s : State) : (s.hostMoves).drawn = s.drawn := by
  unfold State.hostMoves; split <;> simp_all

end Sys2Proof.Machine
end

