-- ==== Sys2Proof/Laws/Ops.lean ====
section
/-! SUPPORT. What each shared operation can do, said once: presenting a frame, the commands, and one step. -/

namespace Sys2Proof.Machine

/-- A presented frame is transferred when the transport is ready (R119). -/
theorem State.tryTransfer_ready (s : State) (t : Nat) (h : s.inp.txReady = true) :
    s.tryTransfer t = s.transfer t := by
  simp [State.tryTransfer, h]

/-- A presented frame changes nothing while the transport is not ready (R119). -/
theorem State.tryTransfer_waits (s : State) (t : Nat) (h : s.inp.txReady = false) : s.tryTransfer t = s := by
  simp [State.tryTransfer, h]

/-- `Emit` with a ready transport is the whole transfer; the phase is back at IDLE (R119). -/
theorem State.emitFrame_ready (s : State) (t : Nat) (h : s.inp.txReady = true) : s.emitFrame t = s.transfer t := by
  simp [State.emitFrame, State.tryTransfer, State.transfer, State.reschedule, State.reschedTime, State.sampleNow,
    State.respond, h]

/-- `Emit` with a transport that is not ready leaves the block in EMIT (R119). -/
theorem State.emitFrame_waits (s : State) (t : Nat) (h : s.inp.txReady = false) :
    s.emitFrame t = { s with phase := .emit t } := by
  simp [State.emitFrame, State.tryTransfer, h]

/-- A TICK that is not due (R115). -/
theorem execTick_notDue (s : State) (h : ¬ s.Due) : execTick s = .next (s.respond .ok (emittedResult false)) := by
  simp only [execTick, if_neg h]

/-- A TICK that is due maps, encodes and emits (R116). -/
theorem execTick_due (s : State) (h : s.Due) :
    execTick s = .next (s.mapStep.encodeStep.emitFrame s.sampleNow) := by
  simp only [execTick, if_pos h]

/-- SCALE on its domain (R99). -/
theorem execScale_domain (v a b : Reading) (lo hi : Chan) (s : State)
    (h : ScaleDomain v.toNat a.toNat b.toNat lo.toNat hi.toNat) :
    execScale v a b lo hi s =
      .next (s.respond .ok (chanResult (scaleChan v.toNat a.toNat b.toNat lo.toNat hi.toNat))) := by
  simp only [execScale, if_pos h]

/-- SCALE outside its domain (R99, R132). -/
theorem execScale_error (v a b : Reading) (lo hi : Chan) (s : State)
    (h : ¬ ScaleDomain v.toNat a.toNat b.toNat lo.toNat hi.toNat) :
    execScale v a b lo hi s = .next (s.raiseError .domain) := by
  simp only [execScale, if_neg h]

/-- Everything a command can do: respond with no state written, respond after a look at the mapper, or be a due TICK. -/
theorem exec_cases (i : Instr) (s t : State) (h : exec i s = .next t) :
    (∃ st r, t = s.respond st r) ∨ (i = .map ∧ t = s.drawFree.respond .ok (channelsResult s.mapped)) ∨
      (i = .tick ∧ s.Due ∧ t = s.mapStep.encodeStep.emitFrame s.sampleNow) := by
  cases i with
  | nop => cases h; exact .inl ⟨_, _, rfl⟩
  | tick =>
    by_cases hd : s.Due
    · rw [show exec .tick s = execTick s from rfl, execTick_due s hd] at h
      cases h
      exact .inr (.inr ⟨rfl, hd, rfl⟩)
    · rw [show exec .tick s = execTick s from rfl, execTick_notDue s hd] at h
      cases h
      exact .inl ⟨_, _, rfl⟩
  | map => cases h; exact .inr (.inl ⟨rfl, rfl⟩)
  | scale v a b lo hi =>
    by_cases hd : ScaleDomain v.toNat a.toNat b.toNat lo.toNat hi.toNat
    · rw [show exec (.scale v a b lo hi) s = execScale v a b lo hi s from rfl, execScale_domain v a b lo hi s hd] at h
      cases h
      exact .inl ⟨_, _, rfl⟩
    · rw [show exec (.scale v a b lo hi) s = execScale v a b lo hi s from rfl, execScale_error v a b lo hi s hd] at h
      cases h
      exact .inl ⟨_, _, rfl⟩
  | encode v => cases h; exact .inl ⟨_, _, rfl⟩
  | unpack p => cases h; exact .inl ⟨_, _, rfl⟩
  | crcLookup idx => cases h; exact .inl ⟨_, _, rfl⟩
  | crcStep crc b => cases h; exact .inl ⟨_, _, rfl⟩
  | reserved code => cases h; exact .inl ⟨_, _, rfl⟩

/-- A step with `rst = 1` (R144). -/
theorem step_rst (s : State) (h : s.inp.rst = true) : step s = .next s.blockReset.hostMoves := by
  simp only [step, moment, h, if_true]

/-- A step of a TICK held in EMIT (R119). -/
theorem step_emit (s : State) (t : Nat) (hr : s.inp.rst = false) (hp : s.phase = .emit t) :
    step s = .next (s.clearRsp.tryTransfer t).hostMoves := by
  simp only [step, moment, hr, hp, if_false, Bool.false_eq_true]

/-- A step that accepts a command (R60). -/
theorem step_accepts (s : State) (i : Instr) (hr : s.inp.rst = false) (hp : s.phase = .idle)
    (hi : s.accepted = some i) : step s = afterCommand (exec i s.accept) := by
  simp only [step, moment, hr, hp, hi, if_false, Bool.false_eq_true]

/-- A step with nothing to do (R143). -/
theorem step_idle (s : State) (hr : s.inp.rst = false) (hp : s.phase = .idle) (hi : s.accepted = none) :
    step s = .next s.clearRsp.hostMoves := by
  simp only [step, moment, hr, hp, hi, if_false, Bool.false_eq_true]

/-- Everything a step can do, before the host moves: reset, a held TICK, an idle moment, or one command. -/
theorem step_cases (s t : State) (h : step s = .next t) :
    (s.inp.rst = true ∧ t = s.blockReset.hostMoves) ∨
    (∃ u, s.inp.rst = false ∧ s.phase = .emit u ∧ t = (s.clearRsp.tryTransfer u).hostMoves) ∨
    (s.inp.rst = false ∧ s.phase = .idle ∧ s.accepted = none ∧ t = s.clearRsp.hostMoves) ∨
    (∃ i u, s.inp.rst = false ∧ s.phase = .idle ∧ s.accepted = some i ∧ exec i s.accept = .next u ∧
      t = u.hostMoves) := by
  cases hr : s.inp.rst with
  | true =>
    rw [step_rst s hr] at h
    cases h
    exact .inl ⟨rfl, rfl⟩
  | false =>
    refine .inr ?_
    cases hp : s.phase with
    | emit u =>
      rw [step_emit s u hr hp] at h
      cases h
      exact .inl ⟨u, rfl, rfl, rfl⟩
    | idle =>
      refine .inr ?_
      cases ha : s.accepted with
      | none =>
        rw [step_idle s hr hp ha] at h
        cases h
        exact .inl ⟨rfl, rfl, rfl, rfl⟩
      | some i =>
        rw [step_accepts s i hr hp ha] at h
        cases hx : exec i s.accept with
        | next u =>
          rw [hx] at h
          cases h
          exact .inr ⟨i, u, rfl, rfl, rfl, hx, rfl⟩
        | fault r => rw [hx] at h; cases h
        | refused r => rw [hx] at h; cases h

end Sys2Proof.Machine
end

