-- ==== Sys2Proof/Laws/PerInstr.lean ====
section
/-! SUPPORT. A law per constructor of `Instr`: the code it encodes to is the one its row of the opcode table matches
(R61), and that code selects it whatever the operand bus carries (R59). -/

namespace Sys2Proof.Laws.OpcodeRow

/-- `match` and `mask` of a command's row of spec/opcode_table.json (R61). -/
def row : Instr → Code × Code
  | .nop => (0x0, 0xF)
  | .tick => (0x1, 0xF)
  | .map => (0x2, 0xF)
  | .scale _ _ _ _ _ => (0x3, 0xF)
  | .encode _ => (0x4, 0xF)
  | .unpack _ => (0x5, 0xF)
  | .crcLookup _ => (0x6, 0xF)
  | .crcStep _ _ => (0x7, 0xF)
  | .reserved _ => (0x8, 0x8)

/-- The law. -/
def Statement (i : Instr) : Prop :=
  i.wellFormed = true →
    (encode i).1 &&& (row i).2 = (row i).1 ∧ ∀ o : Operand, row (decode (encode i).1 o) = row i

theorem nop : Statement .nop := fun _ => by simp [Sys2Proof.encode, Instr.code, decode, row]
theorem tick : Statement .tick := fun _ => by simp [Sys2Proof.encode, Instr.code, decode, row]
theorem map : Statement .map := fun _ => by simp [Sys2Proof.encode, Instr.code, decode, row]
theorem scale (value inMin inMax : Reading) (outMin outMax : Chan) :
    Statement (.scale value inMin inMax outMin outMax) :=
  fun _ => by simp [Sys2Proof.encode, Instr.code, decode, row]
theorem encode (v : Channels) : Statement (.encode v) :=
  fun _ => by simp [Sys2Proof.encode, Instr.code, decode, row]
theorem unpack (p : Payload) : Statement (.unpack p) :=
  fun _ => by simp [Sys2Proof.encode, Instr.code, decode, row]
theorem crcLookup (idx : Byte) : Statement (.crcLookup idx) :=
  fun _ => by simp [Sys2Proof.encode, Instr.code, decode, row]
theorem crcStep (crc b : Byte) : Statement (.crcStep crc b) :=
  fun _ => by simp [Sys2Proof.encode, Instr.code, decode, row]

theorem reserved (code : Code) : Statement (.reserved code) := by
  intro h
  have key : ∀ k : Code, k.getLsbD 3 = true →
      k &&& 0x8 = 0x8 ∧ k ≠ 0#4 ∧ k ≠ 1#4 ∧ k ≠ 2#4 ∧ k ≠ 3#4 ∧ k ≠ 4#4 ∧ k ≠ 5#4 ∧ k ≠ 6#4 ∧ k ≠ 7#4 := by decide
  obtain ⟨hm, h0, h1, h2, h3, h4, h5, h6, h7⟩ := key code h
  refine ⟨hm, fun o => ?_⟩
  simp [Sys2Proof.encode, Instr.code, decode, h0, h1, h2, h3, h4, h5, h6, h7, row]

end Sys2Proof.Laws.OpcodeRow
end

