-- ==== Sys2Proof/Laws/Run.lean ====
section
/-! SUPPORT. The run of the host's interface, one step at a time. -/

namespace Sys2Proof.Machine

/-- A run of no step stays where it is. -/
theorem run_zero (s : State) : core.run 0 s = .next s := rfl

/-- A run goes on from the state its first step gives. -/
theorem run_succ (n : Nat) (s t : State) (h : step s = .next t) : core.run (n + 1) s = core.run n t := by
  have h' : core.step s = .next t := h
  simp only [Host.Core.run, h']

end Sys2Proof.Machine
end

