-- ==== Sys2Proof/Tests/Slice0.lean ====
section
/-! SUPPORT. Tests: expected values come from 95_test_vectors.md, each named where it is used; and, for every statement
with hypotheses, a witness that meets them all together. -/

namespace Sys2Proof.Tests

open Sys2Proof Sys2Proof.Machine

/-! ## Helpers -/

/-- Parameters with `ARM_BTN = 0` and the defaults of R9. -/
def par0 : Params := ⟨64, 0, 0, 65535, .atCheck⟩

/-- The same with `TIME_W = 32` (vectors T8, T9, P5). -/
def par32 : Params := { par0 with timeW := 32 }

/-- The same with `RESCHED_SAMPLE = AFTER_TX`. -/
def parAfter : Params := { par0 with resched := .afterTx }

/-- The same with a narrow rudder range. -/
def parNarrow : Params := { par0 with rudderMin := 1000, rudderMax := 2000 }

/-- The reset state of a block with `ARM_BTN = 0`. -/
def base : State := { State.reset with par := par0 }

/-- An idle block whose pacer and clock stand as given. -/
def paceState (par : Params) (next now : Nat) : State :=
  { base with par := par, nextTime := next, inp := { base.inp with now := now } }

/-- The same with a command presented. -/
def presenting (s : State) (cmd : Code) (opnd : Operand) : State := { s with inp := s.inp.present cmd opnd }

/-- A TICK accepted at `t` holds for the transport; the clock now reads `now`. -/
def heldState (par : Params) (t now : Nat) (ready : Bool) : State :=
  { base with
    par := par, busy := true, phase := .emit t, ch := failsafe, fb := encodeFrame failsafe
    inp := { base.inp with now := now, txReady := ready } }

/-- The snapshot of vector M19. -/
def snapM19 : Snapshot := ⟨255, 0, 0, 0, #v[1, 0, 0, 0], 32768, 65535, 65535⟩
/-- The snapshot of vector M21. -/
def snapM21 : Snapshot := ⟨128, 127, 0, 0, #v[0, 0, 0, 0], 0, 12345, 0⟩
/-- The snapshot of vector M22. -/
def snapM22 : Snapshot := ⟨0, 255, 0, 0, #v[0x80, 0, 0, 0], 65535, 0, 65534⟩
/-- The snapshot of vector M23. -/
def snapM23 : Snapshot := ⟨1, 254, 0, 0, #v[0, 0, 0, 7], 1000, 32768, 65535⟩

/-- `base` with a snapshot present. -/
def seeing (snap : Snapshot) : State := { base with inp := { base.inp with inPresent := true, snap := snap } }

/-- Five channel values, then eleven of 991. -/
def withCentre (a b c d e : Nat) : Channels :=
  #v[chan a, chan b, chan c, chan d, chan e, 991, 991, 991, 991, 991, 991, 991, 991, 991, 991, 991]

/-- Sixteen channel values from an expression of the index. -/
def byIndex (f : Nat → Nat) : Channels := Vector.ofFn fun i => chan (f i.val)

/-- What an outcome shows of the state after it. -/
def after {α : Type} (o : Host.Outcome State Fault Refusal) (f : State → α) : Option α :=
  match o with
  | .next s => some (f s)
  | .fault _ => none
  | .refused _ => none

/-- The response a command gives, status code and result. -/
def answer (i : Instr) (s : State) : Option (BitVec 2 × Result) := (after (exec i s) State.rspPort).join

/-- The operand bus with every bit set. -/
def ones : Operand := BitVec.allOnes 176

/-- `FS_FRAME` of 95_test_vectors.md, as it stands on a result bus (E21). -/
def fsFrameBus : Result := 0x437BEF7DEFBDF7BEF7DEFBDF7BEF7DEF8AC7BEF7C563DF1618EE

/-- The operand bus of E21 and E22. -/
def fsBits : Operand := 0x7BEF7DEFBDF7BEF7DEFBDF7BEF7DEF8AC7BEF7C563DF

/-! ## Well-formedness and decoding -/

theorem test_wellformed_refuses_reserved_3 : (Instr.reserved 0x3).wellFormed = false := by decide
theorem test_wellformed_refuses_reserved_7 : (Instr.reserved 0x7).wellFormed = false := by decide
theorem test_wellformed_accepts_reserved_8 : (Instr.reserved 0x8).wellFormed = true := by decide

/-- S1, S4: NOP, also with every ignored operand bit set. -/
theorem test_decode_nop : decode 0x0 0 = .nop ∧ decode 0x0 ones = .nop := by decide
theorem test_decode_tick : decode 0x1 0 = .tick ∧ decode 0x1 ones = .tick := by decide
theorem test_decode_map : decode 0x2 0 = .map ∧ decode 0x2 ones = .map := by decide
/-- M6, M7, M8. -/
theorem test_decode_scale :
    decode 0x3 0x00000000000000000000000000032000000A00000005 = .scale 5 0 10 0 100 ∧
    decode 0x3 0x00000000000000000000000000064064000700020003 = .scale 3 2 7 100 200 ∧
    decode 0x3 0x000000000000000000000000003898ACFFFF00008000 = .scale 32768 0 65535 172 1811 := by decide +kernel
/-- E21, E24. -/
theorem test_decode_encode :
    decode 0x4 fsBits = .encode (withCentre 991 172 991 991 172) ∧
    decode 0x4 0x01E0380680C0160280480800E0180280400600800800 = .encode (byIndex id) := by decide +kernel
/-- E22. -/
theorem test_decode_unpack :
    decode 0x5 fsBits = .unpack #v[0xDF, 0x63, 0xC5, 0xF7, 0xBE, 0xC7, 0x8A, 0xEF, 0x7D, 0xEF, 0x7B, 0xDF, 0xFB, 0xDE,
      0xF7, 0xBE, 0xF7, 0xBD, 0xEF, 0x7D, 0xEF, 0x7B] := by decide +kernel
/-- S5, P4 step 4. -/
theorem test_decode_crc_lookup :
    decode 0x6 0xFFFFFFFFFFFFFFFFFFFFFFFFFFFFFFFFFFFFFFFFFF80 = .crcLookup 0x80 ∧
    decode 0x6 0x80 = .crcLookup 0x80 := by decide +kernel
/-- P4 step 5: the second CRC_STEP of CRC8, `…3223`. -/
theorem test_decode_crc_step : decode 0x7 0x3223 = .crcStep 0x23 0x32 := by decide +kernel
/-- S2, S3, S6. -/
theorem test_decode_reserved :
    decode 0x8 0 = .reserved 0x8 ∧ decode 0x9 ones = .reserved 0x9 ∧ decode 0xF 0 = .reserved 0xF := by decide
/-- The same words written by the encoder: M8, E23, E22, P4 step 5. -/
theorem test_encode_words :
    encode (.scale 32768 0 65535 172 1811) = (0x3, 0x000000000000000000000000003898ACFFFF00008000) ∧
    encode (.encode (byIndex fun _ => 1811)) = (0x4, 0xE27C4F89F13E27C4F89F13E27C4F89F13E27C4F89F13) ∧
    encode (.crcStep 0xE7 0x34) = (0x7, 0x34E7) ∧ encode (.reserved 0xF) = (0xF, 0) := by decide +kernel
/-- The opcode table's match words. -/
theorem test_decode_table_word :
    decodeTableWord 8 0x1 = some .tick ∧ decodeTableWord 8 0x6 = some (.crcLookup 0) ∧
    decodeTableWord 8 0x8 = some (.reserved 0x8) := by decide +kernel
/-- S2 and E22 as text (R75). -/
theorem test_text_of_commands :
    commandText (.reserved 0x8) = ".cmd 0x8".toList ∧
    commandText (.scale 5 0 10 0 100) = "SCALE 5, 0, 10, 0, 100".toList ∧
    encodingText .tick = "cmd=0x1 opnd=0x00000000000000000000000000000000000000000000".toList := by decide +kernel

/-! ## One command each -/

/-- S1. -/
theorem test_nop : answer .nop base = some (0, 0) := by decide +kernel
/-- S2, S3. -/
theorem test_reserved : answer (.reserved 0x8) base = some (1, 0) ∧ answer (.reserved 0xF) base = some (1, 0) := by
  decide +kernel
/-- C2, C6, C7, C8. -/
theorem test_crc_lookup :
    answer (.crcLookup 0x01) base = some (0, 0xD5) ∧ answer (.crcLookup 0x16) base = some (0, 0xD3) ∧
    answer (.crcLookup 0x80) base = some (0, 0xEF) ∧ answer (.crcLookup 0xFF) base = some (0, 0xF9) := by decide +kernel
/-- C9 to C12. -/
theorem test_crc_step :
    answer (.crcStep 0x00 0x16) base = some (0, 0xD3) ∧ answer (.crcStep 0xD3 0xDF) base = some (0, 0xD7) ∧
    answer (.crcStep 0xFF 0xFF) base = some (0, 0x00) ∧ answer (.crcStep 0xAA 0x55) base = some (0, 0xF9) := by
  decide +kernel
/-- C13. -/
theorem test_crc8_check : crc8 [0x31, 0x32, 0x33, 0x34, 0x35, 0x36, 0x37, 0x38, 0x39] = 0xBC := by decide +kernel
/-- C13, P4 step 5: the third CRC_STEP the expansion issues is `…3387`. -/
theorem test_crc8_expansion : (crc8Commands 0 [0x31, 0x32, 0x33])[2]? = some (.crcStep 0x87 0x33) := by decide +kernel
/-- M6, M7, M8, M12. -/
theorem test_scale_ok :
    answer (.scale 5 0 10 0 100) base = some (0, 50) ∧ answer (.scale 3 2 7 100 200) base = some (0, 120) ∧
    answer (.scale 32768 0 65535 172 1811) base = some (0, 991) ∧ answer (.scale 1 0 1 0 2047) base = some (0, 2047) := by
  decide +kernel
/-- M14 to M17. -/
theorem test_scale_domain :
    answer (.scale 5 10 20 0 100) base = some (2, 0) ∧ answer (.scale 21 10 20 0 100) base = some (2, 0) ∧
    answer (.scale 7 7 7 0 100) base = some (2, 0) ∧ answer (.scale 5 0 10 100 0) base = some (2, 0) := by decide +kernel
/-- M19, M20, M21, M22. -/
theorem test_mapper_vectors :
    (seeing snapM19).mapped = withCentre 991 1811 1811 172 1811 ∧
    { seeing snapM19 with par := { par0 with armBtn := 1 } }.mapped = withCentre 991 1811 1811 172 172 ∧
    (seeing snapM21).mapped = withCentre 172 172 994 988 172 ∧
    (seeing snapM22).mapped = withCentre 1811 990 172 1811 1811 := by decide +kernel
/-- M23, M18. -/
theorem test_mapper_retains :
    mapper { par0 with armBtn := 3 } 0 (byIndex fun i => 500 + i) true snapM23 =
      ((((byIndex fun i => 500 + i).set 0 197).set 1 1401).set 2 178 |>.set 3 1804 |>.set 4 1811) ∧
    mapper par0 0 (byIndex fun i => 500 + i) false snapM23 = withCentre 991 172 991 991 172 := by decide +kernel
/-- P4 step 3: the MAP result, and MAP leaves the channels. -/
theorem test_map :
    answer .map (seeing ⟨0, 255, 0, 0, #v[1, 0, 0, 0], 65535, 0, 65535⟩) =
      some (0, 0x000000007BEF7DEFBDF7BEF7DEFBDF7BEF7DEFF13E262B1EFF13) ∧
    after (exec .map (seeing snapM19)) (·.ch) = some (byIndex fun _ => 991) := by decide +kernel
/-- E21, E23 and E7 (E24). -/
theorem test_encode :
    answer (.encode (withCentre 991 172 991 991 172)) base = some (0, fsFrameBus) ∧
    answer (decode 0x4 0xE27C4F89F13E27C4F89F13E27C4F89F13E27C4F89F13) base =
      some (0, 0xB9E27C4F89F13E27C4F89F13E27C4F89F13E27C4F89F131618EE) := by decide +kernel
/-- E7, E17. -/
theorem test_encode_frame_bytes :
    encodeFrame (byIndex id) = #v[0xEE, 0x18, 0x16, 0x00, 0x08, 0x80, 0x00, 0x06, 0x40, 0x80, 0x02, 0x18, 0xE0, 0x00, 0x08,
      0x48, 0x80, 0x02, 0x16, 0xC0, 0x80, 0x06, 0x38, 0xE0, 0x01, 0x20] ∧
    ((encodeFrame (byIndex fun i => if i = 7 then 1024 else 0))[13],
      (encodeFrame (byIndex fun i => if i = 7 then 1024 else 0))[25]) = (0x80, 0x11) := by decide +kernel
/-- E22. -/
theorem test_unpack : answer (decode 0x5 fsBits) base =
    some (0, 0x000000007BEF7DEFBDF7BEF7DEFBDF7BEF7DEF8AC7BEF7C563DF) := by decide +kernel
/-- T3, T4, T8: not due, due at equality, wrapped. -/
theorem test_tick_pacing :
    after (exec .tick (paceState par0 4000 3999)) (fun t => (t.nextTime, t.rspPort, t.sent)) = some (4000, some (0, 0), []) ∧
    after (exec .tick (paceState par0 4000 4000)) (fun t => (t.nextTime, t.rspPort)) = some (8000, some (0, 1)) ∧
    after (exec .tick (paceState par32 0 4294966296)) (·.nextTime) = some 3000 := by decide +kernel
/-- P2 step 3: the frame E10 is transferred, and the channels are those of M19. -/
theorem test_tick_frame :
    after (exec .tick (seeing snapM19)) (fun t => (t.sent.map fun x => frameBus x.frame, t.ch)) =
      some ([0x4C7BEF7DEFBDF7BEF7DEFBDF7BEF7DEFF13159C4F89BDF1618EE], withCentre 991 1811 1811 172 1811) := by
  decide +kernel

/-! ## One step each -/

/-- P1 step 3, as a step: the TICK is accepted from the ports and answered in its own step. -/
theorem test_step_runs_tick :
    after (step (presenting base 0x1 0)) (fun t => (t.nextTime, t.rspPort, t.cmdReady, t.inp.cmdValid)) =
      some (4000, some (0, 1), true, false) := by decide +kernel
/-- P6 step 2: the TICK holds, `cmd_ready = 0`, `tx_valid = 1`, no response. -/
theorem test_step_holds :
    after (step (presenting { base with inp := { base.inp with txReady := false } } 0x1 0))
      (fun t => (t.phase, t.rspPort, t.cmdReady, t.txValid, t.sent.length)) =
      some (.emit 0, none, false, true, 0) := by decide +kernel
/-- P6 step 3: `rst` in the middle of an emission. -/
theorem test_step_reset_mid_emission :
    after (step { heldState par0 0 5 true with inp := { (heldState par0 0 5 true).inp with rst := true } })
      (fun t => (t.phase, t.rspPort, t.nextTime, t.sent.length, t.ch)) =
      some (.idle, none, 0, 0, byIndex fun _ => 991) := by decide +kernel
/-- R120, AFTER_TX: the reschedule reads the clock as the transport accepts; AT_CHECK reads the TICK's own sample. -/
theorem test_step_transfer_sample :
    after (step (heldState parAfter 100 900 true)) (fun t => (t.nextTime, t.sent.map Transfer.t)) = some (4900, [100]) ∧
    after (step (heldState par0 100 900 true)) (fun t => (t.nextTime, t.sent.map Transfer.t)) = some (4100, [100]) := by
  decide +kernel
/-- A word placed by `withFetchWord` is what the next step from reset runs: CRC_LOOKUP of entry 0, a reserved code. -/
theorem test_step_fetch_word :
    after (step (State.reset.withFetchWord 8 0x6)) State.rspPort = some (some (0, 0)) ∧
    after (step (State.reset.withFetchWord 8 0x8)) State.rspPort = some (some (1, 0)) := by decide +kernel

/-! ## Witnesses: every statement's hypotheses can be met -/

theorem test_witness_DecodeOfEncode :
    (Instr.scale 1 2 3 4 5).wellFormed = true ∧ (Instr.reserved 0x8).wellFormed = true ∧
    (Instr.reserved 0xF).wellFormed = true := by decide

/-- An operand bus that differs in the ignored bits only (S5). -/
theorem test_witness_IgnoredOperandBits :
    let s := presenting base 0x6 0x80
    let o : Operand := 0xFFFFFFFFFFFFFFFFFFFFFFFFFFFFFFFFFFFFFFFFFF80
    o ≠ s.inp.opnd ∧ o &&& operandMask s.inp.cmd = s.inp.opnd &&& operandMask s.inp.cmd ∧ s.inp.rst = false ∧
      s.phase = .idle ∧ s.busy = false ∧ s.inp.cmdValid = true := by decide +kernel

/-- Both ends of the reserved codes. -/
theorem test_witness_Reserved : (0x8 : Code).getLsbD 3 = true ∧ (0xF : Code).getLsbD 3 = true := by decide

/-- M8, with `value` inside; then `value = in_min` and `value = in_max` of the same range. -/
theorem test_witness_ScaleAnswers :
    (∃ (o : Operand) (v a b lo hi : Nat), v = o.toNat % 2 ^ 16 ∧ a = o.toNat / 2 ^ 16 % 2 ^ 16 ∧
      b = o.toNat / 2 ^ 32 % 2 ^ 16 ∧ lo = o.toNat / 2 ^ 48 % 2 ^ 11 ∧ hi = o.toNat / 2 ^ 59 % 2 ^ 11 ∧
      a < v ∧ v < b ∧ a < b ∧ lo < hi) ∧
    (∃ (o : Operand) (v a b lo hi : Nat), v = o.toNat % 2 ^ 16 ∧ a = o.toNat / 2 ^ 16 % 2 ^ 16 ∧
      b = o.toNat / 2 ^ 32 % 2 ^ 16 ∧ lo = o.toNat / 2 ^ 48 % 2 ^ 11 ∧ hi = o.toNat / 2 ^ 59 % 2 ^ 11 ∧
      a = v ∧ v ≤ b ∧ a < b ∧ lo ≤ hi) ∧
    (∃ (o : Operand) (v a b lo hi : Nat), v = o.toNat % 2 ^ 16 ∧ a = o.toNat / 2 ^ 16 % 2 ^ 16 ∧
      b = o.toNat / 2 ^ 32 % 2 ^ 16 ∧ lo = o.toNat / 2 ^ 48 % 2 ^ 11 ∧ hi = o.toNat / 2 ^ 59 % 2 ^ 11 ∧
      a ≤ v ∧ v = b ∧ a < b ∧ lo ≤ hi) :=
  ⟨⟨0x000000000000000000000000003898ACFFFF00008000, 32768, 0, 65535, 172, 1811, by decide +kernel⟩,
    ⟨0x000000000000000000000000003898ACFFFF00000000, 0, 0, 65535, 172, 1811, by decide +kernel⟩,
    ⟨0x000000000000000000000000003898ACFFFF0000FFFF, 65535, 0, 65535, 172, 1811, by decide +kernel⟩⟩

/-- M14 (`value` too small), then the all-ones bus (an empty input range). -/
theorem test_witness_ScaleOutside :
    (∃ (o : Operand) (v a b lo hi : Nat), v = o.toNat % 2 ^ 16 ∧ a = o.toNat / 2 ^ 16 % 2 ^ 16 ∧
      b = o.toNat / 2 ^ 32 % 2 ^ 16 ∧ lo = o.toNat / 2 ^ 48 % 2 ^ 11 ∧ hi = o.toNat / 2 ^ 59 % 2 ^ 11 ∧
      ¬ (a ≤ v ∧ v ≤ b ∧ a < b ∧ lo ≤ hi)) ∧
    (∃ (o : Operand) (v a b lo hi : Nat), v = o.toNat % 2 ^ 16 ∧ a = o.toNat / 2 ^ 16 % 2 ^ 16 ∧
      b = o.toNat / 2 ^ 32 % 2 ^ 16 ∧ lo = o.toNat / 2 ^ 48 % 2 ^ 11 ∧ hi = o.toNat / 2 ^ 59 % 2 ^ 11 ∧
      a ≤ v ∧ v ≤ b ∧ lo ≤ hi ∧ ¬ (a ≤ v ∧ v ≤ b ∧ a < b ∧ lo ≤ hi)) :=
  ⟨⟨0x000000000000000000000000000320000014000A0005, 5, 10, 20, 0, 100, by decide +kernel⟩,
    ⟨ones, 65535, 65535, 65535, 2047, 2047, by decide +kernel⟩⟩

/-- The cases of `MapsTo` and `DrawsFree`: no input; an input in range (at both ends, M21, M22); a rudder reading
outside a narrow range. -/
theorem test_witness_MapsTo :
    base.inp.inPresent = false ∧
    ((seeing snapM21).inp.inPresent = true ∧ (seeing snapM21).RudderInRange) ∧
    ((seeing snapM22).inp.inPresent = true ∧ (seeing snapM22).RudderInRange) ∧
    ({ seeing snapM21 with par := parNarrow }.inp.inPresent = true ∧
      ¬ { seeing snapM21 with par := parNarrow }.RudderInRange) := by decide +kernel

/-- T3: one microsecond early. -/
theorem test_witness_TickNotDue :
    (paceState par0 4000 3999).inp.now % 2 ^ (paceState par0 4000 3999).par.timeW < (paceState par0 4000 3999).nextTime := by
  decide +kernel

/-- T4: due at equality, the transport ready. -/
theorem test_witness_TickDueEmits :
    let s := paceState par0 4000 4000
    s.nextTime ≤ s.inp.now % 2 ^ s.par.timeW ∧ s.inp.txReady = true := by decide +kernel

/-- The same with the transport not ready. -/
theorem test_witness_TickDueHolds :
    let s := { paceState par0 4000 4000 with inp := { base.inp with now := 4000, txReady := false } }
    s.nextTime ≤ s.inp.now % 2 ^ s.par.timeW ∧ s.inp.txReady = false := by decide +kernel

/-- T2. -/
theorem test_witness_FirstTick :
    ((paceState par0 0 123456789).nextTime = 0 ∧ (paceState par0 0 123456789).inp.txReady = true) ∧
    ∃ p : Inputs, p.rst = false ∧ p.cmdValid = true ∧ p.cmd = 0x1 ∧ p.txReady = true ∧ p.now = 123456789 :=
  ⟨by decide, { base.inp with now := 123456789, cmdValid := true, cmd := 0x1 }, by decide⟩

theorem test_witness_CommandsOtherThanTick : Instr.nop ≠ .tick ∧ Instr.map ≠ .tick ∧ Instr.reserved 0xF ≠ .tick := by
  decide

/-- Snapshots that differ in what is not read: the auxiliary axes and a spare button; and, with no input present, in
everything. -/
theorem test_witness_UnreadInputs :
    (let s := seeing snapM19
      let snap := { snapM19 with aux0 := 9, aux1 := 8, btn := #v[1, 5, 0, 0] }
      s.inp.inPresent = true ∧ snap ≠ s.inp.snap ∧ s.inp.snap.rudder = snap.rudder ∧
      s.inp.snap.throttle = snap.throttle ∧ s.inp.snap.brake = snap.brake ∧ s.inp.snap.roll = snap.roll ∧
      s.inp.snap.pitch = snap.pitch ∧ s.inp.snap.btn[s.par.armBtn] = snap.btn[s.par.armBtn]) ∧
    (base.inp.inPresent = true → base.inp.snap.AgreeOnRead base.par snapM22) :=
  ⟨by decide +kernel, fun h => absurd h (by decide)⟩

/-- A command that errs each way, and one that does not, each from a state with no response presented. -/
theorem test_witness_ErrorsRaised :
    base.rsp = none ∧ (∃ t, exec (.reserved 0x9) base = .next t) ∧ (∃ t, exec (.scale 5 10 20 0 100) base = .next t) ∧
    ∃ t, exec .nop base = .next t :=
  ⟨rfl, ⟨_, rfl⟩, ⟨_, rfl⟩, ⟨_, rfl⟩⟩

/-- A reserved code, and M14. -/
theorem test_witness_ErrorPrecise :
    (∃ t r, base.rsp = none ∧ exec (.reserved 0x9) base = .next t ∧ t.rsp = some r ∧ r.status ≠ .ok) ∧
    ∃ t r, base.rsp = none ∧ exec (.scale 5 10 20 0 100) base = .next t ∧ t.rsp = some r ∧ r.status ≠ .ok :=
  ⟨⟨_, _, rfl, rfl, rfl, by decide⟩, ⟨_, _, rfl, rfl, rfl, by decide⟩⟩

/-- The brake half (M3): both ends and a point between. -/
theorem test_witness_ScaleFunction :
    (0 < 65535 ∧ 172 ≤ 991) ∧ (0 ≤ 80 ∧ 80 ≤ 81 ∧ 81 ≤ 65535) ∧
    (65535 < 2 ^ 16 ∧ 1811 < 2 ^ 11 ∧ 0 ≤ 65535 ∧ 65535 ≤ 65535 ∧ 0 < 65535 ∧ 172 ≤ 1811) := by decide

/-- The ends of the range of covered frame bytes: 2 and 24. -/
theorem test_witness_FrameCrc :
    ((2 : Fin 26).val = 2 ∧ (0x17 : Byte) ≠ (encodeFrame failsafe)[2]) ∧
    ((24 : Fin 26).val ≤ 24 ∧ (0x7A : Byte) ≠ (encodeFrame failsafe)[24]) := by
  decide +kernel

theorem test_witness_Crc8Loop : [(0x31 : Byte)] ≠ [] := by decide

theorem test_witness_StepRuns :
    let s := presenting base 0x3 0x000000000000000000000000003898ACFFFF00008000
    s.inp.rst = false ∧ s.phase = .idle ∧ s.busy = false ∧ s.inp.cmdValid = true := by decide +kernel

theorem test_witness_ResetStep :
    { heldState par0 0 5 true with inp := { base.inp with rst := true } }.inp.rst = true := by decide

theorem test_witness_HeldTickWaits :
    let s := heldState par0 100 900 false
    s.inp.rst = false ∧ s.phase = .emit 100 ∧ s.inp.txReady = false := by decide +kernel

/-- Under each `RESCHED_SAMPLE`. -/
theorem test_witness_HeldTickTransfers :
    let s := heldState par0 100 900 true
    let r := heldState parAfter 100 900 true
    (s.inp.rst = false ∧ s.phase = .emit 100 ∧ s.inp.txReady = true ∧ s.par.resched = .atCheck) ∧
    (r.inp.rst = false ∧ r.phase = .emit 100 ∧ r.inp.txReady = true ∧ r.par.resched = .afterTx) := by decide +kernel

theorem test_witness_IdleStep : base.inp.rst = false ∧ base.phase = .idle ∧ base.inp.cmdValid = false := by decide

theorem test_witness_DeadTransport :
    (heldState par0 100 900 false).phase = .emit 100 ∧ (heldState par0 100 900 false).busy = true ∧
    (heldState par0 100 900 false).TransportDead :=
  ⟨rfl, rfl, by simp [State.TransportDead, State.moments, heldState, base, State.reset, Inputs.atReset]⟩

/-- Both sides of the last clause: a TICK that holds, and a TICK that ends. -/
theorem test_witness_OneResponse :
    let s := presenting { base with inp := { base.inp with txReady := false } } 0x1 0
    let r := presenting base 0x1 0
    (s.inp.rst = false ∧ (∃ t, step s = .next t) ∧ s.phase = .idle ∧ s.accepted = some .tick ∧ s.inp.txReady = false ∧
      s.nextTime ≤ s.inp.now % 2 ^ s.par.timeW) ∧
    (r.inp.rst = false ∧ (∃ t, step r = .next t) ∧ r.phase = .idle ∧ r.accepted = some .tick ∧ r.inp.txReady = true) :=
  ⟨⟨rfl, ⟨_, rfl⟩, rfl, by decide +kernel, rfl, by decide +kernel⟩, ⟨rfl, ⟨_, rfl⟩, rfl, by decide +kernel, rfl⟩⟩

/-- A command that is not TICK, and no command at all. -/
theorem test_witness_OnlyTickAndReset :
    let s := presenting base 0x7 0x34E7
    ((∃ t, step s = .next t) ∧ s.inp.rst = false ∧ s.phase = .idle ∧ s.accepted ≠ some .tick) ∧
    (∃ t, step base = .next t) ∧ base.inp.rst = false ∧ base.phase = .idle ∧ base.accepted ≠ some .tick :=
  ⟨⟨⟨_, rfl⟩, rfl, rfl, by decide +kernel⟩, ⟨_, rfl⟩, rfl, rfl, by decide +kernel⟩

theorem test_witness_ParametersNeverChange : ∃ t, step (heldState par0 100 900 true) = .next t := ⟨_, rfl⟩

/-- T8, and the first clock value from which the reschedule wraps. -/
theorem test_witness_RescheduleWraps :
    let s := paceState par32 0 4294966296
    let r := paceState par32 0 4294963296
    (s.par.Legal ∧ s.nextTime ≤ s.inp.now % 2 ^ s.par.timeW ∧ s.inp.txReady = true ∧
      2 ^ s.par.timeW ≤ s.inp.now % 2 ^ s.par.timeW + 4000) ∧
    (r.par.Legal ∧ r.nextTime ≤ r.inp.now % 2 ^ r.par.timeW ∧ r.inp.txReady = true ∧
      2 ^ r.par.timeW = r.inp.now % 2 ^ r.par.timeW + 4000) := by decide +kernel

/-- A held TICK meets the invariants, and it has a step. -/
theorem test_witness_Invariants :
    let s := heldState par0 100 900 true
    s.HandshakeOk ∧ s.TimesOk ∧ s.AuxOk ∧ s.ChannelsOk ∧ s.SentOk ∧ ∃ t, step s = .next t := by
  have hch : (heldState par0 100 900 true).ChannelsOk := by decide +kernel
  refine ⟨rfl, ⟨by decide, ?_⟩, by decide +kernel, hch, ⟨hch, fun _ => rfl, ?_⟩, _, rfl⟩
  · intro t h
    obtain rfl : 100 = t := by simpa [heldState] using h
    decide
  · simp [heldState, base, State.reset]

/-- A held TICK one interval after a frame meets the premises of the pace statement. -/
theorem test_witness_Pace :
    let s := { heldState par0 4100 4900 true with nextTime := 4000, sent := [⟨0, encodeFrame failsafe⟩] }
    s.Paced ∧ s.ClockDuty ∧ ∃ t, step s = .next t := by
  refine ⟨by simp [State.Paced, Config.interval], ⟨?_, ?_, ?_⟩, _, rfl⟩
  · simp [State.moments, heldState, base, State.reset, Inputs.atReset, Config.interval, par0]
  · simp [State.moments, heldState, base, State.reset]
  · intro t h
    obtain rfl : 4100 = t := by simpa [heldState] using h
    decide

/-- A state that presents a frame, with the highest legal `next_time`; and one that presents none. -/
theorem test_witness_OutputPorts :
    { heldState par0 100 900 true with nextTime := 2 ^ 64 - 1 }.nextTime < 2 ^ (heldState par0 100 900 true).par.timeW ∧
    (heldState par0 100 900 true).txValid = true ∧ base.txValid = false := by decide +kernel

/-- A response of each status with `rst = 0`; no response; and a response hidden by `rst = 1` (log 14). -/
theorem test_witness_ResponsePort :
    (∀ status : Status, { base with rsp := some ⟨status, 5⟩ }.inp.rst = false ∧
      { base with rsp := some ⟨status, 5⟩ }.rsp = some ⟨status, 5⟩) ∧
    base.rspValid = false ∧
    { base with rsp := some ⟨.ok, 5⟩, inp := { base.inp with rst := true } }.rspValid = false :=
  ⟨fun _ => ⟨rfl, rfl⟩, rfl, rfl⟩

end Sys2Proof.Tests
end

section
/-! SUPPORT. The statements of 00_scope.md: what the output ports carry, that no step changes a parameter, and that the
reset state meets the invariants. -/

namespace Sys2Proof.Machine

/-! ## The output ports (R31, R37, R38) -/

/-- The phase is EMIT exactly when it is not IDLE (R25). -/
theorem Phase.ne_idle_iff (p : Phase) : p ≠ .idle ↔ ∃ t, p = .emit t := by
  cases p <;> simp

theorem State.txValid_iff (s : State) : s.txValid = true ↔ s.inp.rst = false ∧ ∃ t, s.phase = .emit t := by
  simp [State.txValid, ← Phase.ne_idle_iff]

theorem State.txData_of_txValid (s : State) (h : s.txValid = true) : s.txData = some (frameBus s.fb) := if_pos h

theorem State.txData_of_not_txValid (s : State) (h : s.txValid = false) : s.txData = none := by
  simp [State.txData, h]

/-- Settles O52: every bus is a row of equal fields, so each field is read back by the layout lemma of its bus. -/
theorem outputPortsShowState : Obligations.OutputPortsShowState := by
  intro s
  refine ⟨fun i => channelBus_extract s.ch i i.isLt, fun hn => ?_, s.txValid_iff, fun hv => ?_,
    s.txData_of_not_txValid⟩
  · exact Nat.mod_eq_of_lt hn
  · exact ⟨frameBus s.fb, s.txData_of_txValid hv, fun k => frameBus_extract s.fb k k.isLt⟩

/-! ## What no command touches: the ports, the coming values, the parameters (R29, R32) -/

theorem State.tryTransfer_sameEnv (s : State) (u : Nat) : s.SameEnv (s.tryTransfer u) := by
  cases h : s.inp.txReady with
  | true => rw [s.tryTransfer_ready u h]; exact ⟨rfl, rfl, rfl⟩
  | false => rw [s.tryTransfer_waits u h]; exact ⟨rfl, rfl, rfl⟩

/-- A due TICK, whether its frame is transferred or held, touches only the block (R116). -/
theorem State.emitTick_sameEnv (s : State) (u : Nat) : s.SameEnv (s.mapStep.encodeStep.emitFrame u) := by
  obtain ⟨hinp, hup, hpar⟩ := State.tryTransfer_sameEnv { s.mapStep.encodeStep with phase := .emit u } u
  exact ⟨hinp.trans (by simp), hup.trans (by simp), hpar.trans (by simp)⟩

theorem exec_sameEnv {i : Instr} {s t : State} (h : exec i s = .next t) : s.SameEnv t := by
  obtain ⟨st, r, rfl⟩ | ⟨-, rfl⟩ | ⟨-, -, rfl⟩ := exec_cases i s t h
  · exact ⟨rfl, rfl, rfl⟩
  · exact ⟨by simp, by simp, by simp⟩
  · exact s.emitTick_sameEnv _

/-- Settles O42, by the four things a step can do. -/
theorem parametersNeverChange : Obligations.ParametersNeverChange := by
  intro s t h
  obtain ⟨-, rfl⟩ | ⟨u, -, -, rfl⟩ | ⟨-, -, -, rfl⟩ | ⟨i, u, -, -, -, hx, rfl⟩ := step_cases s t h
  · simp
  · obtain ⟨-, -, hpar⟩ := s.clearRsp.tryTransfer_sameEnv u
    rw [State.hostMoves_par, hpar, State.clearRsp_par]
  · simp
  · obtain ⟨-, -, hpar⟩ := exec_sameEnv hx
    rw [State.hostMoves_par, hpar, State.accept_par]

/-! ## The reset state (R144) -/

theorem resetChannels_getElem (i : Nat) (h : i < 16) : resetChannels[i] = chan Config.chMid :=
  Vector.getElem_replicate h

/-- The reset channels are all at the centre, so they meet R96 and lie in the range of R100. -/
theorem resetChannels_safe : ChannelsSafe resetChannels := by
  have hcentre (i : Fin 16) : resetChannels[i] = chan Config.chMid := resetChannels_getElem i i.isLt
  refine ⟨fun i => ?_, fun i _ => hcentre i⟩
  rw [hcentre i]
  decide

theorem reset_timesOk : State.reset.TimesOk :=
  ⟨Nat.two_pow_pos _, fun _ h => Phase.noConfusion h⟩

/-- Nothing is sent or presented yet, so only the channels themselves have anything to meet. -/
theorem reset_sentOk : State.reset.SentOk :=
  ⟨⟨⟨rfl, rfl⟩, resetChannels_safe⟩, fun h => Bool.noConfusion h, by simp [State.reset]⟩

theorem reset_paced : State.reset.Paced := by
  simp [State.Paced, State.reset]

/-- The host's one moment at reset has `rst` released and the clock at 0, far from a 64-bit wrap (logs 2 and 5). -/
theorem reset_clockDuty : State.reset.ClockDuty := by
  have hmoments : State.reset.moments = [Inputs.atReset] := rfl
  refine ⟨fun p hp => ?_, ?_, fun _ h => Phase.noConfusion h⟩
  · obtain rfl : p = Inputs.atReset := by simpa [hmoments] using hp
    exact ⟨rfl, show 0 + 4000 < 2 ^ 64 by decide⟩
  · rw [hmoments]
    exact List.pairwise_singleton _ _

/-- Settles O45, one invariant at a time. -/
theorem resetMeetsInvariants : Obligations.ResetMeetsInvariants :=
  ⟨show 32 ≤ 64 ∧ (0 : Reading).toNat < (65535 : Reading).toNat by decide, rfl, reset_timesOk,
    resetChannels_safe.2, reset_sentOk, reset_paced, reset_clockDuty⟩

end Sys2Proof.Machine
end

section
/-! SUPPORT. The statements of 10_state.md: what a step does in reset, while a TICK holds, when idle and when it accepts
a command; the reset state; the response port; and the invariants of the handshake and of the pacer's times. -/

namespace Sys2Proof.Machine

/-! ## The invariants of one state under the host's move and the response port

`HandshakeOk` reads `phase` and `busy`, `TimesOk` reads `nextTime`, `phase` and the parameters: neither sees the ports. -/

theorem State.hostMoves_handshakeOk (s : State) : s.hostMoves.HandshakeOk ↔ s.HandshakeOk := by
  simp [State.HandshakeOk]

theorem State.hostMoves_timesOk (s : State) : s.hostMoves.TimesOk ↔ s.TimesOk := by
  simp [State.TimesOk]

theorem State.sampleNow_lt (s : State) : s.sampleNow < 2 ^ s.par.timeW :=
  Nat.mod_lt _ (Nat.two_pow_pos _)

/-! ## The handshake (R25, R60, R119) -/

/-- A transfer ends the TICK and frees the block; a wait changes nothing (R119). -/
theorem State.HandshakeOk.tryTransfer {s : State} (h : s.HandshakeOk) (u : Nat) : (s.tryTransfer u).HandshakeOk := by
  cases hr : s.inp.txReady with
  | true => rw [s.tryTransfer_ready u hr]; exact rfl
  | false => rwa [s.tryTransfer_waits u hr]

/-- A command run with `busy` set either ends, and clears it, or is a TICK that holds in EMIT (R60, R119). -/
theorem exec_handshakeOk {i : Instr} {s t : State} (hp : s.phase = .idle) (hb : s.busy = true)
    (h : exec i s = .next t) : t.HandshakeOk := by
  obtain ⟨st, r, rfl⟩ | ⟨-, rfl⟩ | ⟨-, -, rfl⟩ := exec_cases i s t h
  · simp [State.HandshakeOk, hp, Phase.isEmit]
  · simp [State.HandshakeOk, hp, Phase.isEmit]
  · have hemit : ({ s.mapStep.encodeStep with phase := .emit s.sampleNow } : State).HandshakeOk := by
      simp [State.HandshakeOk, hb, Phase.isEmit]
    exact hemit.tryTransfer _

/-- Settles O46, by the four things a step can do. -/
theorem stepKeepsHandshake : Obligations.StepKeepsHandshake := by
  intro s t hs h
  obtain ⟨-, rfl⟩ | ⟨u, -, -, rfl⟩ | ⟨-, -, -, rfl⟩ | ⟨i, u, -, hp, -, hx, rfl⟩ := step_cases s t h
  · exact s.blockReset.hostMoves_handshakeOk.2 rfl
  · exact (State.hostMoves_handshakeOk _).2 (State.HandshakeOk.tryTransfer (s := s.clearRsp) hs u)
  · exact s.clearRsp.hostMoves_handshakeOk.2 hs
  · exact u.hostMoves_handshakeOk.2 (exec_handshakeOk (s := s.accept) hp rfl hx)

/-! ## The pacer's times (R23, R114, R120) -/

theorem State.TimesOk.of_idle {s : State} (hn : s.nextTime < 2 ^ s.par.timeW) (hp : s.phase = .idle) : s.TimesOk :=
  ⟨hn, fun _ hu => Phase.noConfusion (hp.symm.trans hu)⟩

theorem State.TimesOk.respond {s : State} (h : s.TimesOk) (st : Status) (r : Result) : (s.respond st r).TimesOk := h

/-- A transfer reschedules modulo `2 ^ TIME_W` (R120); a wait changes nothing (R119). -/
theorem State.TimesOk.tryTransfer {s : State} (h : s.TimesOk) (u : Nat) : (s.tryTransfer u).TimesOk := by
  cases hr : s.inp.txReady with
  | true =>
    rw [s.tryTransfer_ready u hr]
    exact .of_idle (Nat.mod_lt _ (Nat.two_pow_pos _)) rfl
  | false => rwa [s.tryTransfer_waits u hr]

/-- Only a due TICK enters EMIT, with the clock sample it was due at (R114). -/
theorem exec_timesOk {i : Instr} {s t : State} (hs : s.TimesOk) (h : exec i s = .next t) : t.TimesOk := by
  obtain ⟨st, r, rfl⟩ | ⟨-, rfl⟩ | ⟨-, hdue, rfl⟩ := exec_cases i s t h
  · exact hs.respond st r
  · have hdraw : s.drawFree.TimesOk := by simpa [State.TimesOk] using hs
    exact hdraw.respond _ _
  · have hemit : ({ s.mapStep.encodeStep with phase := .emit s.sampleNow } : State).TimesOk := by
      refine ⟨by simpa using hs.1, fun v hv => ?_⟩
      obtain rfl : s.sampleNow = v := Phase.emit.inj hv
      simpa using ⟨hdue, s.sampleNow_lt⟩
    exact hemit.tryTransfer _

/-- Settles O47, by the four things a step can do. -/
theorem stepKeepsTimes : Obligations.StepKeepsTimes := by
  intro s t hs h
  obtain ⟨-, rfl⟩ | ⟨u, -, -, rfl⟩ | ⟨-, -, -, rfl⟩ | ⟨i, u, -, -, -, hx, rfl⟩ := step_cases s t h
  · exact s.blockReset.hostMoves_timesOk.2 (.of_idle (Nat.two_pow_pos _) rfl)
  · exact (State.hostMoves_timesOk _).2 (State.TimesOk.tryTransfer (s := s.clearRsp) hs u)
  · exact s.clearRsp.hostMoves_timesOk.2 hs
  · exact u.hostMoves_timesOk.2 (exec_timesOk (s := s.accept) hs hx)

/-! ## Acceptance (R33, R59, R60) -/

/-- Every code spells a command: a code that is none of the eight commands has bit 3 set (R61, R69). -/
theorem decode_wellFormed (cmd : Code) (opnd : Operand) : (decode cmd opnd).wellFormed = true := by
  have hreserved : ∀ c : Code, 0x8 ≤ c → c.getLsbD 3 = true := by decide
  unfold decode
  split_ifs
  case neg => exact hreserved cmd (by bv_omega)
  all_goals rfl

theorem State.hostMoves_eq (s : State) :
    s.hostMoves = { s with inp := s.upcoming.headD s.inp, upcoming := s.upcoming.tail } := by
  cases s with
  | mk ch fb nextTime phase busy rsp inp upcoming => cases upcoming <;> rfl

theorem State.accepted_of_ready {s : State} (hr : s.inp.rst = false) (hb : s.busy = false)
    (hv : s.inp.cmdValid = true) : s.accepted = some (decode s.inp.cmd s.inp.opnd) := by
  simp [State.accepted, State.cmdReady, hr, hb, hv]

theorem State.accepted_of_not_cmdValid {s : State} (hv : s.inp.cmdValid = false) : s.accepted = none := by
  simp [State.accepted, hv]

/-- Settles O33: the accepting step is `exec` on the accepted state, and then the host's move. -/
theorem stepRunsAcceptedCommand : Obligations.StepRunsAcceptedCommand := by
  intro s hr hp hb hv
  refine ⟨decode_wellFormed _ _, ?_⟩
  rw [step_accepts s _ hr hp (State.accepted_of_ready hr hb hv)]
  unfold State.accept
  cases exec (decode s.inp.cmd s.inp.opnd) _ with
  | next t => exact congrArg Host.Outcome.next t.hostMoves_eq
  | fault r => rfl
  | refused r => rfl

/-! ## Reset (R38, R144, R145) -/

theorem resetChannels_eq_991 (i : Fin 16) : resetChannels[i] = 991 := resetChannels_getElem i i.isLt

theorem resetFrame_eq_zero (k : Fin 26) : resetFrame[k] = 0 := Vector.getElem_replicate k.isLt

/-- Settles O34: the outputs are low by their definitions, and the step is the block's reset. -/
theorem resetStepSetsResetValues : Obligations.ResetStepSetsResetValues := by
  intro s hr
  refine ⟨by simp [State.cmdReady, hr], by simp [State.rspValid, hr], by simp [State.txValid, hr],
    s.blockReset.hostMoves, step_rst s hr, fun i => ?_, fun k => ?_, ?_⟩
  · simpa using resetChannels_eq_991 i
  · simpa using resetFrame_eq_zero k
  · simp

/-- Settles O44. -/
theorem resetState : Obligations.ResetState :=
  ⟨resetChannels_eq_991, resetFrame_eq_zero, rfl, rfl, rfl, rfl, rfl, rfl⟩

/-! ## Steps that hold the block's state (R119, R143) -/

/-- A silent moment leaves the block, the responses given and the frames sent as they were. -/
theorem State.clearRsp_hostMoves_holds (s : State) :
    s.SameBlock s.clearRsp.hostMoves ∧ s.clearRsp.hostMoves.rsp = none ∧
      s.clearRsp.hostMoves.responses = s.responses ∧ s.clearRsp.hostMoves.sent = s.sent := by
  simp [State.SameBlock]

/-- Settles O35: with no ready transport the attempt to transfer changes nothing. -/
theorem heldTickWaits : Obligations.HeldTickWaits := by
  intro s u hr hp hw
  refine ⟨s.txValid_iff.2 ⟨hr, u, hp⟩, s.clearRsp.hostMoves, ?_, s.clearRsp_hostMoves_holds⟩
  rw [step_emit s u hr hp, s.clearRsp.tryTransfer_waits u hw]

/-- Settles O37: no command on the port, so none is accepted. -/
theorem idleStepHoldsState : Obligations.IdleStepHoldsState := by
  intro s hr hp hv
  exact ⟨s.clearRsp.hostMoves, step_idle s hr hp (State.accepted_of_not_cmdValid hv), s.clearRsp_hostMoves_holds⟩

/-! ## The response port (R28, R34, R38, R72) -/

theorem Status.code_spec (st : Status) :
    st.code ≠ 3 ∧ (st.code = 0 ↔ st = .ok) ∧ (st.code = 1 ↔ st = .illegalCmd) ∧ (st.code = 2 ↔ st = .domain) := by
  cases st <;> decide

theorem State.rspValid_iff (s : State) : s.rspValid = true ↔ s.inp.rst = false ∧ ∃ r, s.rsp = some r := by
  simp [State.rspValid, Option.isSome_iff_exists]

theorem State.rspPort_of_rsp {s : State} {r : Response} (hr : s.inp.rst = false) (h : s.rsp = some r) :
    s.rspPort = some (r.status.code, r.res) := by
  simp [State.rspPort, hr, h]

theorem State.rspPort_of_not_rspValid (s : State) (h : s.rspValid = false) : s.rspPort = none := by
  cases hr : s.inp.rst with
  | true => simp [State.rspPort, hr]
  | false =>
    have hnone : s.rsp = none := by simpa [State.rspValid, hr] using h
    simp [State.rspPort, hnone]

/-- Settles O53: the port is the presented response, and `Status.code_spec` reads its code. -/
theorem responsePortShowsResponse : Obligations.ResponsePortShowsResponse := by
  intro s
  exact ⟨s.rspValid_iff, fun r hr h => ⟨r.status.code, State.rspPort_of_rsp hr h, r.status.code_spec⟩,
    s.rspPort_of_not_rspValid⟩

end Sys2Proof.Machine
end

section
/-! SUPPORT. The statements of 30_encoding.md: the decoder and the encoder, the fields of the operand formats, what the
commands that read them answer, the frame format, and that every frame sent is the frame of a safe channel vector. -/

namespace Sys2Proof.Machine

/-! ## Decoding and encoding (R59 to R69) -/

theorem decode_nop (o : Operand) : decode 0x0 o = .nop := rfl
theorem decode_tick (o : Operand) : decode 0x1 o = .tick := rfl
theorem decode_map (o : Operand) : decode 0x2 o = .map := rfl
theorem decode_scale (o : Operand) :
    decode 0x3 o = .scale (fsValue o) (fsInMin o) (fsInMax o) (fsOutMin o) (fsOutMax o) := rfl
theorem decode_encode (o : Operand) : decode 0x4 o = .encode (fvChannels o) := rfl
theorem decode_unpack (o : Operand) : decode 0x5 o = .unpack (fpPayload o) := rfl
theorem decode_crcLookup (o : Operand) : decode 0x6 o = .crcLookup (flIdx o) := rfl
theorem decode_crcStep (o : Operand) : decode 0x7 o = .crcStep (fcCrc o) (fcByte o) := rfl

/-- The sixteen codes: the eight commands, and the codes with bit 3 set (R61, R69). -/
theorem code_cases (cmd : Code) :
    cmd = 0x0 ∨ cmd = 0x1 ∨ cmd = 0x2 ∨ cmd = 0x3 ∨ cmd = 0x4 ∨ cmd = 0x5 ∨ cmd = 0x6 ∨ cmd = 0x7 ∨
      cmd.getLsbD 3 = true := by
  decide +revert

/-- A reserved code is none of the eight commands' codes (R61, R69). -/
theorem reserved_code_ne {cmd : Code} (h : cmd.getLsbD 3 = true) :
    cmd ≠ 0x0 ∧ cmd ≠ 0x1 ∧ cmd ≠ 0x2 ∧ cmd ≠ 0x3 ∧ cmd ≠ 0x4 ∧ cmd ≠ 0x5 ∧ cmd ≠ 0x6 ∧ cmd ≠ 0x7 := by
  decide +revert

theorem decode_reserved (cmd : Code) (o : Operand) (h : cmd.getLsbD 3 = true) : decode cmd o = .reserved cmd := by
  obtain ⟨h0, h1, h2, h3, h4, h5, h6, h7⟩ := reserved_code_ne h
  simp only [decode, if_neg h0, if_neg h1, if_neg h2, if_neg h3, if_neg h4, if_neg h5, if_neg h6, if_neg h7]

/-- A reserved code names no operand bit (R68). -/
theorem operandMask_reserved (cmd : Code) (h : cmd.getLsbD 3 = true) : operandMask cmd = 0 := by
  obtain ⟨-, -, -, h3, h4, h5, h6, h7⟩ := reserved_code_ne h
  simp only [operandMask, if_neg h3, if_neg h4, if_neg h5, if_neg h6, if_neg h7]

/-- Settles O1: each format gives back the fields it was written from, and the code selects the command. -/
theorem decodeOfEncode : Obligations.DecodeOfEncode := by
  intro i hi
  cases i with
  | nop => rfl
  | tick => rfl
  | map => rfl
  | scale v a b lo hi =>
    refine (decode_scale _).trans ?_
    simp only [encode, Instr.operand, fsValue_fsBus, fsInMin_fsBus, fsInMax_fsBus, fsOutMin_fsBus, fsOutMax_fsBus]
  | encode c => exact congrArg Instr.encode (fvChannels_fvBus c)
  | unpack p => exact congrArg Instr.unpack (fpPayload_fpBus p)
  | crcLookup idx => exact congrArg Instr.crcLookup (flIdx_flBus idx)
  | crcStep crc b => exact congrArg₂ Instr.crcStep (fcCrc_fcBus crc b) (fcByte_fcBus crc b)
  | reserved code => exact decode_reserved code 0 hi

/-- The low `k` bits of a bus, written back, are the bus with its other bits cleared. -/
theorem setWidth_low_bits (o : Operand) (k : Nat) :
    (o.extractLsb' 0 k).setWidth 176 = o &&& BitVec.ofNat 176 (2 ^ k - 1) := by
  apply BitVec.eq_of_getLsbD_eq
  intro j hj
  rw [BitVec.getLsbD_setWidth, BitVec.getLsbD_extractLsb', BitVec.getLsbD_and, BitVec.getLsbD_ofNat,
    Nat.testBit_two_pow_sub_one]
  simp [hj, Bool.and_comm]

/-- The fields of format FS lie side by side from bit 0 to bit 69 (R63). -/
theorem fsBus_of_fields (o : Operand) :
    fsBus (fsValue o) (fsInMin o) (fsInMax o) (fsOutMin o) (fsOutMax o) = o &&& BitVec.ofNat 176 (2 ^ 70 - 1) := by
  rw [← setWidth_low_bits]
  simp only [fsBus, fsValue, fsInMin, fsInMax, fsOutMin, fsOutMax, BitVec.extractLsb'_append_extractLsb'_eq_extractLsb']

theorem flBus_flIdx (o : Operand) : flBus (flIdx o) = o &&& BitVec.ofNat 176 (2 ^ 8 - 1) :=
  setWidth_low_bits o 8

/-- The two bytes of format FC lie side by side from bit 0 to bit 15 (R65). -/
theorem fcBus_of_fields (o : Operand) : fcBus (fcCrc o) (fcByte o) = o &&& BitVec.ofNat 176 (2 ^ 16 - 1) := by
  rw [← setWidth_low_bits]
  simp only [fcBus, fcCrc, fcByte, BitVec.extractLsb'_append_extractLsb'_eq_extractLsb']

/-- A decoded command spells its own code and the operand bits its format names (R61, R68). -/
theorem encode_decode (cmd : Code) (o : Operand) : encode (decode cmd o) = (cmd, o &&& operandMask cmd) := by
  obtain rfl | rfl | rfl | rfl | rfl | rfl | rfl | rfl | hreserved := code_cases cmd
  · exact congrArg (Prod.mk _) (BitVec.and_zero (x := o)).symm
  · exact congrArg (Prod.mk _) (BitVec.and_zero (x := o)).symm
  · exact congrArg (Prod.mk _) (BitVec.and_zero (x := o)).symm
  · exact congrArg (Prod.mk _) (fsBus_of_fields o)
  · exact congrArg (Prod.mk _) ((fvBus_fvChannels o).trans BitVec.and_allOnes.symm)
  · exact congrArg (Prod.mk _) ((fpBus_fpPayload o).trans BitVec.and_allOnes.symm)
  · exact congrArg (Prod.mk _) (flBus_flIdx o)
  · exact congrArg (Prod.mk _) (fcBus_of_fields o)
  · rw [decode_reserved cmd o hreserved, operandMask_reserved cmd hreserved]
    exact congrArg (Prod.mk _) (BitVec.and_zero (x := o)).symm

/-- Settles O2. -/
theorem encodeOfDecode : Obligations.EncodeOfDecode := fun cmd o => ⟨decode_wellFormed cmd o, encode_decode cmd o⟩

/-- Settles O4. -/
theorem codesSelectCommands : Obligations.CodesSelectCommands := fun o =>
  ⟨decode_nop o, decode_tick o, decode_map o, ⟨_, _, _, _, _, decode_scale o⟩, ⟨_, decode_encode o⟩,
    ⟨_, decode_unpack o⟩, ⟨_, decode_crcLookup o⟩, ⟨_, _, decode_crcStep o⟩,
    fun cmd h => decode_reserved cmd o h⟩

/-- Settles O5, by decoding each word. -/
theorem listedWordsDecode : Obligations.ListedWordsDecode := by
  unfold Obligations.ListedWordsDecode
  decide +kernel

/-! ## Ignored operand bits (R68) -/

/-- The decoder sees the operand bus only through the bits the format names: decoding after encoding after decoding. -/
theorem decode_masked (cmd : Code) (o : Operand) : decode cmd (o &&& operandMask cmd) = decode cmd o := by
  have h := decodeOfEncode (decode cmd o) (decode_wellFormed cmd o)
  rwa [encode_decode] at h

theorem decode_congr_masked {cmd : Code} {o o' : Operand} (h : o &&& operandMask cmd = o' &&& operandMask cmd) :
    decode cmd o = decode cmd o' := by
  rw [← decode_masked cmd o, h, decode_masked]

/-- `s` with another value on the operand port. -/
def State.withOperand (s : State) (o : Operand) : State := { s with inp := { s.inp with opnd := o } }

theorem State.drawFree_withOperand (s : State) (o : Operand) :
    (s.withOperand o).drawFree = s.drawFree.withOperand o := by
  rw [State.drawFree, State.drawFree, apply_ite (State.withOperand · o)]
  rfl

theorem State.tryTransfer_withOperand (s : State) (u : Nat) (o : Operand) :
    (s.withOperand o).tryTransfer u = (s.tryTransfer u).withOperand o := by
  rw [State.tryTransfer, State.tryTransfer, apply_ite (State.withOperand · o)]
  rfl

/-- A due TICK reads the clock, the snapshot and the transport, not the operand port (R114 to R121). -/
theorem State.emitTick_withOperand (s : State) (u : Nat) (o : Operand) :
    (s.withOperand o).mapStep.encodeStep.emitFrame u = (s.mapStep.encodeStep.emitFrame u).withOperand o := by
  have hmap : (s.withOperand o).mapStep = s.mapStep.withOperand o := by
    simp only [State.mapStep, State.drawFree_withOperand]
    rfl
  rw [hmap]
  exact State.tryTransfer_withOperand { s.mapStep.encodeStep with phase := .emit u } u o

/-- Every command takes its operands from the decoder and none reads the operand port again (R59). -/
theorem exec_withOperand (i : Instr) (s : State) (o : Operand) :
    ∃ t, exec i s = .next t ∧ exec i (s.withOperand o) = .next (t.withOperand o) := by
  cases i with
  | tick =>
    by_cases hd : s.Due
    · refine ⟨_, execTick_due s hd, ?_⟩
      rw [← State.emitTick_withOperand]
      exact execTick_due (s.withOperand o) hd
    · exact ⟨_, execTick_notDue s hd, execTick_notDue (s.withOperand o) hd⟩
  | map =>
    refine ⟨_, rfl, ?_⟩
    change execMap _ = _
    rw [execMap, State.drawFree_withOperand]
    rfl
  | scale v a b lo hi =>
    by_cases hd : ScaleDomain v.toNat a.toNat b.toNat lo.toNat hi.toNat
    · exact ⟨_, execScale_domain v a b lo hi s hd, execScale_domain v a b lo hi (s.withOperand o) hd⟩
    · exact ⟨_, execScale_error v a b lo hi s hd, execScale_error v a b lo hi (s.withOperand o) hd⟩
  | nop => exact ⟨_, rfl, rfl⟩
  | encode c => exact ⟨_, rfl, rfl⟩
  | unpack p => exact ⟨_, rfl, rfl⟩
  | crcLookup idx => exact ⟨_, rfl, rfl⟩
  | crcStep crc b => exact ⟨_, rfl, rfl⟩
  | reserved code => exact ⟨_, rfl, rfl⟩

/-- Settles O3: the decoder ignores the bits, and no command reads the port. -/
theorem ignoredOperandBitsHaveNoEffect : Obligations.IgnoredOperandBitsHaveNoEffect := by
  intro s o hmask hr _ hb hv
  obtain ⟨t, hs, ho⟩ := exec_withOperand (decode s.inp.cmd s.inp.opnd) s.accept o
  refine ⟨_, t, State.accepted_of_ready hr hb hv, ?_, hs, ho⟩
  rw [← decode_congr_masked hmask]
  exact State.accepted_of_ready (s := s.withOperand o) hr hb hv

/-! ## The answer of a command that writes no state (R60, R72, R127) -/

theorem State.respond_answered (s : State) (st : Status) (r : Result) : s.Answered (s.respond st r) st r :=
  ⟨rfl, rfl, rfl⟩

theorem State.respond_pure (s : State) (st : Status) (r : Result) : s.Pure (s.respond st r) :=
  ⟨rfl, rfl, rfl, rfl, rfl, rfl, rfl, rfl⟩

/-! ## The fields of the operand bus in plain numbers (R12, R63 to R65) -/

/-- A field of the operand bus, in plain numbers (R12). -/
theorem toNat_field (o : Operand) (k w : Nat) : (o.extractLsb' k w).toNat = o.toNat / 2 ^ k % 2 ^ w := by
  rw [BitVec.extractLsb'_toNat, Nat.shiftRight_eq_div_pow]

/-- The lowest field of the operand bus. -/
theorem toNat_low_field (o : Operand) (w : Nat) : (o.extractLsb' 0 w).toNat = o.toNat % 2 ^ w := by
  rw [toNat_field, Nat.pow_zero, Nat.div_one]

@[simp] theorem toNat_fsValue (o : Operand) : (fsValue o).toNat = o.toNat % 2 ^ 16 := toNat_low_field o 16
@[simp] theorem toNat_fsInMin (o : Operand) : (fsInMin o).toNat = o.toNat / 2 ^ 16 % 2 ^ 16 := toNat_field o 16 16
@[simp] theorem toNat_fsInMax (o : Operand) : (fsInMax o).toNat = o.toNat / 2 ^ 32 % 2 ^ 16 := toNat_field o 32 16
@[simp] theorem toNat_fsOutMin (o : Operand) : (fsOutMin o).toNat = o.toNat / 2 ^ 48 % 2 ^ 11 := toNat_field o 48 11
@[simp] theorem toNat_fsOutMax (o : Operand) : (fsOutMax o).toNat = o.toNat / 2 ^ 59 % 2 ^ 11 := toNat_field o 59 11
@[simp] theorem toNat_flIdx (o : Operand) : (flIdx o).toNat = o.toNat % 256 := toNat_low_field o 8
@[simp] theorem toNat_fcCrc (o : Operand) : (fcCrc o).toNat = o.toNat % 256 := toNat_low_field o 8
@[simp] theorem toNat_fcByte (o : Operand) : (fcByte o).toNat = o.toNat / 256 % 256 := toNat_field o 8 8

/-! ## SCALE (R86 to R88, R99) -/

/-- The interpolation never exceeds the upper end of its output range (R87). -/
theorem scale_le {v a b lo hi : Nat} (h : ScaleDomain v a b lo hi) : scale v a b lo hi ≤ hi := by
  obtain ⟨-, hvb, hab, hlohi⟩ := h
  have hquot : (v - a) * (hi - lo) / (b - a) ≤ hi - lo := by
    apply Nat.div_le_of_le_mul
    exact Nat.mul_le_mul_right _ (Nat.sub_le_sub_right hvb a)
  unfold scale
  omega

/-- On its domain the interpolation fits an 11-bit channel (R87). -/
theorem toNat_scaleChan {v a b lo hi : Nat} (h : ScaleDomain v a b lo hi) (hhi : hi < 2 ^ 11) :
    (scaleChan v a b lo hi).toNat = scale v a b lo hi :=
  Nat.mod_eq_of_lt ((scale_le h).trans_lt hhi)

theorem toNat_chanResult (v : Chan) : (chanResult v).toNat = v.toNat :=
  BitVec.toNat_setWidth_of_le (by decide)

/-- Settles O8: the 11-bit value in the response holds the interpolation exactly. -/
theorem scaleAnswersInterpolation : Obligations.ScaleAnswersInterpolation := by
  rintro s o _ _ _ _ _ rfl rfl rfl rfl rfl hav hvb hab hlohi
  simp only [← toNat_fsValue, ← toNat_fsInMin, ← toNat_fsInMax, ← toNat_fsOutMin, ← toNat_fsOutMax] at *
  have hd : ScaleDomain _ _ _ _ _ := ⟨hav, hvb, hab, hlohi⟩
  have hres := (toNat_chanResult _).trans (toNat_scaleChan hd (fsOutMax o).isLt)
  refine ⟨_, _, execScale_domain _ _ _ _ _ s hd, s.respond_answered _ _, s.respond_pure _ _, hres, ?_, ?_⟩
  · exact hres ▸ Nat.le_add_right _ _
  · exact hres ▸ scale_le hd

/-- Settles O9. -/
theorem scaleOutsideDomainAnswersDomain : Obligations.ScaleOutsideDomainAnswersDomain := by
  rintro s o _ _ _ _ _ rfl rfl rfl rfl rfl hd
  rw [← toNat_fsValue, ← toNat_fsInMin, ← toNat_fsInMax, ← toNat_fsOutMin, ← toNat_fsOutMax] at hd
  exact ⟨_, execScale_error _ _ _ _ _ s hd, s.respond_answered _ _, s.respond_pure _ _⟩

/-! ## The CRC table and its commands (R78 to R83) -/

theorem toNat_byteResult (b : Byte) : (byteResult b).toNat = b.toNat :=
  BitVec.toNat_setWidth_of_le (by decide)

/-- The generator computes the listing, entry by entry (R78, R79). -/
theorem toNat_romRead (i : Byte) : (romRead i).toNat = crcListing.getD i.toNat 0 := by
  decide +kernel +revert

/-- One iteration of the generator is linear: the shift is, and the polynomial is added once for each top bit (R85). -/
theorem crcShift_xor (a b : Byte) : crcShift (a ^^^ b) = crcShift a ^^^ crcShift b := by
  unfold crcShift
  rw [BitVec.getLsbD_xor, BitVec.shiftLeft_xor_distrib]
  generalize a <<< 1 = x, b <<< 1 = y
  cases a.getLsbD 7 <;> cases b.getLsbD 7
  · rfl
  · exact BitVec.xor_assoc x y Config.crcPoly
  · change x ^^^ y ^^^ Config.crcPoly = (x ^^^ Config.crcPoly) ^^^ y
    ac_rfl
  · change x ^^^ y = (x ^^^ Config.crcPoly) ^^^ (y ^^^ Config.crcPoly)
    rw [BitVec.xor_comm y, BitVec.xor_assoc, ← BitVec.xor_assoc Config.crcPoly, BitVec.xor_self, BitVec.zero_xor]

theorem crcShifts_xor (n : Nat) (a b : Byte) : crcShifts n (a ^^^ b) = crcShifts n a ^^^ crcShifts n b := by
  induction n generalizing a b with
  | zero => rfl
  | succ n ih => rw [crcShifts, crcShift_xor, ih]; rfl

/-- The table is linear (R85). -/
theorem romRead_xor (a b : Byte) : romRead (a ^^^ b) = romRead a ^^^ romRead b := crcShifts_xor 8 a b

/-- Settles O13. -/
theorem crcLookupAnswersListedEntry : Obligations.CrcLookupAnswersListedEntry := by
  intro s o
  refine ⟨_, _, rfl, s.respond_answered _ _, s.respond_pure _ _, ?_⟩
  rw [toNat_byteResult, toNat_romRead, toNat_flIdx]

/-- Settles O14: the table at an exclusive OR, and the table's linearity. -/
theorem crcStepAnswersTableStep : Obligations.CrcStepAnswersTableStep := by
  intro s o
  refine ⟨_, _, rfl, s.respond_answered _ _, s.respond_pure _ _, ?_, ?_⟩
  · rw [toNat_byteResult, crcUpdate, toNat_romRead, BitVec.toNat_xor, toNat_fcCrc, toNat_fcByte]
  · rw [toNat_byteResult, crcUpdate, romRead_xor, BitVec.toNat_xor, toNat_romRead, toNat_romRead, toNat_fcCrc,
      toNat_fcByte]

/-! ## The host's loop for CRC8 (R76) -/

theorem State.Pure.trans {s t u : State} (h : s.Pure t) (h' : t.Pure u) : s.Pure u := by
  obtain ⟨hch, hfb, hnext, hphase, hinp, hup, hpar, hsent⟩ := h
  obtain ⟨hch', hfb', hnext', hphase', hinp', hup', hpar', hsent'⟩ := h'
  exact ⟨hch'.trans hch, hfb'.trans hfb, hnext'.trans hnext, hphase'.trans hphase, hinp'.trans hinp, hup'.trans hup,
    hpar'.trans hpar, hsent'.trans hsent⟩

/-- The host reads back the byte a CRC command answered (R76). -/
theorem State.rspByte_respond (s : State) (b : Byte) : (s.respond .ok (byteResult b)).rspByte = b := by
  apply BitVec.eq_of_toNat_eq
  change ((byteResult b).extractLsb' 0 8).toNat = b.toNat
  rw [BitVec.extractLsb'_toNat, toNat_byteResult]
  exact Nat.mod_eq_of_lt b.isLt

/-- One turn of the host's loop: the next CRC_STEP is given the byte just answered (R76). -/
theorem crc8Host_cons (r b : Byte) (bs : List Byte) (s : State) :
    crc8Host r (b :: bs) s = crc8Host (crcUpdate r b) bs (s.respond .ok (byteResult (crcUpdate r b))) :=
  congrArg (crc8Host · bs _) (s.rspByte_respond (crcUpdate r b))

/-- The host's loop from the running value `r` gives one OK response a byte and writes nothing else, and its last
response carries the CRC. With no byte at all, `r` has to stand in the response already (R76). -/
theorem crc8Host_runs (r : Byte) (bytes : List Byte) (s : State) (h : s.rspByte = r ∨ bytes ≠ []) :
    ∃ t given, crc8Host r bytes s = .next t ∧ t.rspByte = bytes.foldl crcUpdate r ∧ s.Pure t ∧
      t.responses = given ++ s.responses ∧ given.length = bytes.length ∧ ∀ x ∈ given, x.status = .ok := by
  induction bytes generalizing r s with
  | nil => exact ⟨s, [], rfl, h.resolve_right (· rfl), ⟨rfl, rfl, rfl, rfl, rfl, rfl, rfl, rfl⟩, rfl, rfl, by simp⟩
  | cons b bs ih =>
    obtain ⟨t, given, hrun, hbyte, hpure, hgiven, hlen, hok⟩ := ih _ _ (.inl (s.rspByte_respond (crcUpdate r b)))
    refine ⟨t, given ++ [⟨.ok, byteResult (crcUpdate r b)⟩], (crc8Host_cons r b bs s).trans hrun, hbyte,
      (s.respond_pure _ _).trans hpure, ?_, by simp [hlen], ?_⟩
    · simp [hgiven]
    · simpa [or_imp, forall_and] using hok

/-- Settles O29: the loop from 0x00 over a non-empty sequence. -/
theorem crc8LoopComputesCrc : Obligations.Crc8LoopComputesCrc := by
  intro s bytes hne
  obtain ⟨t, given, hrun, hbyte, hpure, hgiven, hlen, hok⟩ := crc8Host_runs 0 bytes s (.inr hne)
  refine ⟨t, hrun, hbyte, hpure, ?_, ?_⟩
  · rw [hgiven, List.length_append, hlen, Nat.add_comm]
  · rwa [hgiven, ← hlen, List.take_left]

/-! ## The frame format (R73, R74, R102 to R105) -/

/-- Frame byte `3 + k` is bits `8k` to `8k+7` of the channel bus (R103). -/
theorem encodeFrame_payloadBits (v : Channels) (k : Nat) (h : k < 22) :
    (encodeFrame v)[3 + k] = (channelBus v).extractLsb' (8 * k) 8 :=
  (encodeFrame_payload v k h).trans (payloadOf_getElem v k h)

/-- Stream bit `j` is bit `j mod 8` of frame byte `3 + j / 8` (R73, R102). -/
theorem encodeFrame_streamBit (v : Channels) (j : Nat) (h : j < 176) :
    ((encodeFrame v)[3 + j / 8]).getLsbD (j % 8) = (v[j / 11]).getLsbD (j % 11) := by
  rw [encodeFrame_payloadBits v (j / 8) (by omega), BitVec.getLsbD_extractLsb', Nat.div_add_mod, channelBus_getLsbD v j h]
  simp [Nat.mod_lt]

/-- Settles O32, by the laws of the frame's bytes. -/
theorem encodeFrameMeetsFormat : Obligations.EncodeFrameMeetsFormat := fun v =>
  ⟨encodeFrame_addr v, encodeFrame_len v, encodeFrame_type v, fun j => encodeFrame_streamBit v j j.isLt,
    (encodeFrame_crc v).trans (congrArg crc8 (encodeFrame_covered v).symm)⟩

/-- Some of the bits of one channel, where they lie on the channel bus (R12). -/
theorem chan_extract (v : Channels) (i a n : Nat) (hi : i < 16) (ha : a + n ≤ 11) :
    v[i].extractLsb' a n = (channelBus v).extractLsb' (11 * i + a) n := by
  rw [← channelBus_extract v i hi]
  apply BitVec.eq_of_getLsbD_eq
  intro j hj
  have hfield : a + j < 11 := by omega
  simp [hj, hfield, Nat.add_assoc]

/-- A row of the byte map whose byte lies within channel `i`, from bit `a` (R74). -/
theorem encodeFrame_byte_within (v : Channels) (k i a : Nat) (h : 8 * k = 11 * i + a := by decide)
    (ha : a + 8 ≤ 11 := by decide) (hi : i < 16 := by decide) :
    (encodeFrame v)[3 + k] = v[i].extractLsb' a 8 := by
  rw [encodeFrame_payloadBits v k (by omega), chan_extract v i a 8 hi ha, h]

/-- A row of the byte map whose byte holds the top `m` bits of channel `i` below the low `n` bits of channel `i + 1`
(R74). -/
theorem encodeFrame_byte_across (v : Channels) (k i n m : Nat) (h : 8 * k + m = 11 * (i + 1) := by decide)
    (hnm : n + m = 8 := by decide) (hi : i + 1 < 16 := by decide) :
    (encodeFrame v)[3 + k] = (v[i + 1].extractLsb' 0 n ++ v[i].extractLsb' (11 - m) m).cast hnm := by
  rw [encodeFrame_payloadBits v k (by omega), chan_extract v (i + 1) 0 n hi (by omega),
    chan_extract v i (11 - m) m (by omega) (by omega),
    BitVec.extractLsb'_append_extractLsb'_eq_extractLsb' (by omega), show 11 * i + (11 - m) = 8 * k by omega]
  apply BitVec.eq_of_toNat_eq
  rw [BitVec.toNat_cast, BitVec.extractLsb'_toNat, BitVec.extractLsb'_toNat, hnm]

/-- Settles O31: each byte of the map lies within one channel or across two. -/
theorem payloadByteMap : Obligations.PayloadByteMap := fun v =>
  ⟨encodeFrame_byte_within v 0 0 0,
    encodeFrame_byte_across v 1 0 5 3,
    encodeFrame_byte_across v 2 1 2 6,
    encodeFrame_byte_within v 3 2 2,
    encodeFrame_byte_across v 4 2 7 1,
    encodeFrame_byte_across v 5 3 4 4,
    encodeFrame_byte_across v 6 4 1 7,
    encodeFrame_byte_within v 7 5 1,
    encodeFrame_byte_across v 8 5 6 2,
    encodeFrame_byte_across v 9 6 3 5,
    encodeFrame_byte_within v 10 7 3,
    encodeFrame_byte_within v 11 8 0,
    encodeFrame_byte_across v 12 8 5 3,
    encodeFrame_byte_across v 13 9 2 6,
    encodeFrame_byte_within v 14 10 2,
    encodeFrame_byte_across v 15 10 7 1,
    encodeFrame_byte_across v 16 11 4 4,
    encodeFrame_byte_across v 17 12 1 7,
    encodeFrame_byte_within v 18 13 1,
    encodeFrame_byte_across v 19 13 6 2,
    encodeFrame_byte_across v 20 14 3 5,
    encodeFrame_byte_within v 21 15 3⟩

/-! ## ENCODE and UNPACK (R66, R67, R107, R109) -/

theorem resByte_frameResult (f : Frame) (k : Nat) (h : k < 26) : resByte (frameResult f) k = f[k].toNat := by
  rw [← frameBus_extract f k h, BitVec.extractLsb'_toNat, Nat.shiftRight_eq_div_pow]
  rfl

/-- The payload field of a frame's result bus is the channel bus itself (R103, R107). -/
theorem frameResult_payload (v : Channels) : (frameResult (encodeFrame v)).extractLsb' 24 176 = channelBus v := by
  apply BitVec.eq_of_getLsbD_eq
  intro j hj
  have hbit := congrArg (·.getLsbD (j % 8)) (frameBus_extract (encodeFrame v) (3 + j / 8) (by omega))
  have hpos : 8 * (3 + j / 8) + j % 8 = 24 + j := by omega
  simp only [BitVec.getLsbD_extractLsb', hpos, Nat.mod_lt j (show 0 < 8 by decide), encodeFrame_streamBit v j hj] at hbit
  rw [channelBus_getLsbD v j hj, frameResult]
  simpa [hj] using hbit

/-- Settles O11: the frame of the operand's channels, whose payload is the operand bus itself. -/
theorem encodeAnswersFrame : Obligations.EncodeAnswersFrame := by
  intro s o
  refine ⟨_, _, encodeFrame (fvChannels o), rfl, s.respond_answered _ _, s.respond_pure _ _,
    fun k => resByte_frameResult _ k k.isLt, encodeFrameMeetsFormat (fvChannels o), ?_⟩
  exact (frameResult_payload _).trans (fvBus_fvChannels o)

/-- Unpacking a bus of bytes and laying the channels out again is the bus itself (R108, R109). -/
theorem channelsResult_unpack (o : Operand) : channelsResult (unpack (fpPayload o)) = o.setWidth 208 := by
  have hbus : payloadBus (fpPayload o) = o := fpBus_fpPayload o
  rw [channelsResult, unpack, channelBus_busChannels, hbus]

/-- Settles O12. -/
theorem unpackAnswersChannels : Obligations.UnpackAnswersChannels := by
  intro s o
  have hres : (channelsResult (unpack (fpPayload o))).toNat = o.toNat := by
    rw [channelsResult_unpack]
    exact BitVec.toNat_setWidth_of_le (by decide)
  refine ⟨_, _, rfl, s.respond_answered _ _, s.respond_pure _ _, hres, fun i => ?_⟩
  rw [resChan, hres]

/-! ## One response a command (R60, R72, R119, R128) -/

/-- A state that has given exactly one response since `s`, and presents it (R72). -/
def State.Responded (s t : State) : Prop := ∃ r, t.rsp = some r ∧ t.responses = r :: s.responses

theorem State.Responded.rsp_ne_none {s t : State} (h : s.Responded t) : t.rsp ≠ none := by
  obtain ⟨r, hr, -⟩ := h
  simp [hr]

theorem State.respond_responded (s : State) (st : Status) (r : Result) : s.Responded (s.respond st r) := ⟨_, rfl, rfl⟩

/-- A presented frame is answered when the transport takes it, and waits in silence otherwise (R119, R121). -/
theorem State.tryTransfer_responded (s : State) (u : Nat) :
    (s.inp.txReady = true ∧ s.Responded (s.tryTransfer u)) ∨ (s.inp.txReady = false ∧ s.tryTransfer u = s) := by
  cases hr : s.inp.txReady with
  | true => exact .inl ⟨rfl, by rw [s.tryTransfer_ready u hr]; exact ⟨_, rfl, rfl⟩⟩
  | false => exact .inr ⟨rfl, s.tryTransfer_waits u hr⟩

/-- A due TICK whose transport is not ready gives no response (R119). -/
theorem execTick_holds {s t : State} (hd : s.Due) (hw : s.inp.txReady = false) (h : exec .tick s = .next t) :
    t.rsp = s.rsp ∧ t.responses = s.responses := by
  cases (execTick_due s hd).symm.trans h
  rw [State.emitFrame_waits _ _ (by simpa using hw)]
  simp

/-- Every command is answered, unless it is a due TICK whose transport is not ready (R119, R128). -/
theorem exec_responded {i : Instr} {s t : State} (h : exec i s = .next t)
    (hheld : ¬ (i = .tick ∧ s.inp.txReady = false ∧ s.Due)) : s.Responded t := by
  obtain ⟨st, r, rfl⟩ | ⟨-, rfl⟩ | ⟨htick, hdue, rfl⟩ := exec_cases i s t h
  · exact s.respond_responded st r
  · exact ⟨_, rfl, by simp⟩
  · have hready : s.inp.txReady = true := by simpa [htick, hdue] using hheld
    rw [State.emitFrame_ready _ _ (by simpa using hready)]
    exact ⟨_, rfl, by simp⟩

/-- Settles O40: a held TICK, an idle moment, and a command accepted. -/
theorem oneResponsePerCommand : Obligations.OneResponsePerCommand := by
  intro s t hr h
  obtain ⟨hrst, -⟩ | ⟨u, -, hp, rfl⟩ | ⟨-, -, ha, rfl⟩ | ⟨i, u, -, -, ha, hx, rfl⟩ := step_cases s t h
  · exact absurd hrst (by simp [hr])
  · refine ⟨?_, fun i hidle _ => Phase.noConfusion (hidle.symm.trans hp)⟩
    obtain ⟨-, r, hrsp, hresp⟩ | ⟨-, hwait⟩ := s.clearRsp.tryTransfer_responded u
    · exact .inr ⟨r, by simpa using hrsp, by simpa using hresp⟩
    · exact .inl (by simp [hwait])
  · exact ⟨.inl (by simp), fun i _ hi => by simp [ha] at hi⟩
  · rw [State.hostMoves_rsp, State.hostMoves_responses]
    by_cases hheld : i = .tick ∧ s.inp.txReady = false ∧ s.Due
    · obtain ⟨rfl, hw, hd⟩ := hheld
      obtain ⟨hrsp, hresp⟩ := execTick_holds (s := s.accept) hd hw hx
      refine ⟨.inl ⟨hrsp, hresp⟩, fun j _ hj => ⟨fun _ => ⟨?_, hw, hd⟩, fun _ => hrsp⟩⟩
      exact Option.some.inj (hj.symm.trans ha)
    · have hresp : s.accept.Responded u := exec_responded hx hheld
      refine ⟨.inr hresp, fun j _ hj => ?_⟩
      obtain rfl : j = i := Option.some.inj (hj.symm.trans ha)
      exact iff_of_false hresp.rsp_ne_none hheld

/-! ## The mapper keeps the channels in range (R90 to R96, R100) -/

/-- A value scaled onto a part of the protocol range lies in the protocol range (R100). -/
theorem scaleChan_inRange {v a b lo hi : Nat} (h : ScaleDomain v a b lo hi) (hlo : Config.chMin ≤ lo)
    (hhi : hi ≤ Config.chMax) : ChanInRange (scaleChan v a b lo hi) := by
  have hfits : hi < 2 ^ 11 := hhi.trans_lt (by decide)
  rw [ChanInRange, toNat_scaleChan h hfits]
  exact ⟨hlo.trans (Nat.le_add_right _ _), (scale_le h).trans hhi⟩

theorem rudderChan_inRange {par : Params} (h : par.FullRudder) (free : Chan) (v : Reading) :
    ChanInRange (rudderChan par free v) := by
  obtain ⟨hmin, hmax⟩ := h
  have hd : RudderInDomain par v := by
    rw [RudderInDomain, hmin, hmax]
    exact ⟨Nat.zero_le _, Nat.le_of_lt_succ v.isLt, by decide, by decide⟩
  rw [rudderChan, if_pos hd]
  exact scaleChan_inRange hd le_rfl le_rfl

theorem throttleChan_inRange (brake throttle : Reading) : ChanInRange (throttleChan brake throttle) := by
  unfold throttleChan
  split
  case isTrue hbrake => exact scaleChan_inRange ⟨Nat.zero_le _, hbrake.le, by decide, by decide⟩ le_rfl (by decide)
  case isFalse =>
    exact scaleChan_inRange ⟨Nat.zero_le _, Nat.le_of_lt_succ throttle.isLt, by decide, by decide⟩ (by decide) le_rfl

theorem axisChan_inRange (v : Byte) : ChanInRange (axisChan v) :=
  scaleChan_inRange ⟨Nat.zero_le _, Nat.le_of_lt_succ v.isLt, by decide, by decide⟩ le_rfl le_rfl

theorem armChan_inRange (button : Byte) : ChanInRange (armChan button) := by
  unfold armChan
  split <;> decide

/-- The failsafe vector is safe (R90). -/
theorem failsafe_safe : ChannelsSafe failsafe := by
  decide +kernel

/-- The live vector drives channels 0 to 4 into the range and keeps the others (R91 to R96). -/
theorem live_safe {par : Params} {prev : Channels} (hpar : par.FullRudder) (hprev : ChannelsSafe prev) (free : Chan)
    (snap : Snapshot) : ChannelsSafe (live par free prev snap) := by
  obtain ⟨hrange, haux⟩ := hprev
  refine ⟨fun i => ?_, fun i hi => ?_⟩
  · have hlive := live_getElem par free prev snap i i.isLt
    change ChanInRange (live par free prev snap)[i.val]
    rw [hlive]
    split_ifs
    · exact rudderChan_inRange hpar free _
    · exact throttleChan_inRange _ _
    · exact axisChan_inRange _
    · exact axisChan_inRange _
    · exact armChan_inRange _
    · exact hrange i
  · refine (live_getElem par free prev snap i i.isLt).trans ?_
    rw [if_neg (by omega), if_neg (by omega), if_neg (by omega), if_neg (by omega), if_neg (by omega)]
    exact haux i hi

/-- With the rudder parameters of R9 the mapper answers a safe vector, whatever the input ports carry (R89, R100). -/
theorem State.mapped_safe {s : State} (h : s.ChannelsOk) : ChannelsSafe s.mapped := by
  obtain ⟨hpar, hch⟩ := h
  rw [State.mapped]
  cases s.inp.inPresent with
  | true => exact live_safe hpar hch _ _
  | false => exact failsafe_safe

/-! ## Every frame sent encodes a safe vector (R73, R100, R105, R106) -/

theorem State.hostMoves_sentOk (s : State) : s.hostMoves.SentOk ↔ s.SentOk := by
  simp [State.SentOk, State.ChannelsOk, State.FrameHeld]

/-- A presented frame is the frame of the channels, so it may join the frames sent (R118, R119). -/
theorem State.SentOk.tryTransfer {s : State} (h : s.SentOk) (hemit : s.phase.isEmit = true) (u : Nat) :
    (s.tryTransfer u).SentOk := by
  obtain ⟨hch, hheld, hsent⟩ := h
  cases hr : s.inp.txReady with
  | true =>
    rw [s.tryTransfer_ready u hr]
    exact ⟨hch, fun hp => Bool.noConfusion hp, List.forall_mem_cons.2 ⟨⟨s.ch, hch.2, hheld hemit⟩, hsent⟩⟩
  | false =>
    rw [s.tryTransfer_waits u hr]
    exact ⟨hch, hheld, hsent⟩

/-- Only a due TICK changes the channels, and it encodes the frame it presents from them (R117, R118). -/
theorem exec_sentOk {i : Instr} {s t : State} (hs : s.SentOk) (h : exec i s = .next t) : t.SentOk := by
  obtain ⟨st, r, rfl⟩ | ⟨-, rfl⟩ | ⟨-, -, rfl⟩ := exec_cases i s t h
  · exact hs
  · simpa [State.SentOk, State.ChannelsOk, State.FrameHeld] using hs
  · obtain ⟨hch, -, hsent⟩ := hs
    have hemit : ({ s.mapStep.encodeStep with phase := .emit s.sampleNow } : State).SentOk :=
      ⟨⟨by simpa using hch.1, by simpa using State.mapped_safe hch⟩, fun _ => by simp, by simpa using hsent⟩
    exact hemit.tryTransfer rfl _

/-- Settles O50, by the four things a step can do. -/
theorem stepKeepsSentFramesValid : Obligations.StepKeepsSentFramesValid := by
  intro s t hs h
  obtain ⟨-, rfl⟩ | ⟨u, -, hp, rfl⟩ | ⟨-, -, -, rfl⟩ | ⟨i, u, -, -, -, hx, rfl⟩ := step_cases s t h
  · obtain ⟨⟨hpar, -⟩, -, hsent⟩ := hs
    exact s.blockReset.hostMoves_sentOk.2 ⟨⟨hpar, resetChannels_safe⟩, fun hr => Bool.noConfusion hr, hsent⟩
  · have hclear : s.clearRsp.SentOk := hs
    exact (State.hostMoves_sentOk _).2 (hclear.tryTransfer (congrArg Phase.isEmit hp) u)
  · exact s.clearRsp.hostMoves_sentOk.2 hs
  · exact u.hostMoves_sentOk.2 (exec_sentOk (s := s.accept) hs hx)

end Sys2Proof.Machine
end

section
/-! SUPPORT. The statements of 40_crc8.md: the table's linearity, and the table-driven CRC as the remainder of polynomial
division over GF(2). -/

namespace Sys2Proof.Machine

/-! ## The table is linear (R85) -/

/-- The CRC of zero bytes stays at the initial value, because the entry at 0 is 0 (R83, R85). -/
theorem crc8_replicate_zero (n : Nat) : crc8 (List.replicate n 0) = 0 := by
  induction n with
  | zero => rfl
  | succ n ih => exact ih

/-- Settles O27. -/
theorem crcTableIsLinear : Obligations.CrcTableIsLinear :=
  ⟨crcShifts_xor 8, rfl, crc8_replicate_zero, romRead_xor⟩

/-! ## Bytes as polynomials over GF(2) (R77) -/

section
open Polynomial

/-- Adding bytes as polynomials is their exclusive OR: coefficients are added modulo 2. -/
theorem bytePoly_xor (a b : Byte) : bytePoly (a ^^^ b) = bytePoly a + bytePoly b := by
  rw [bytePoly, bytePoly, bytePoly, ← Finset.sum_add_distrib]
  refine Finset.sum_congr rfl fun i _ => ?_
  rw [BitVec.getLsbD_xor]
  cases a.getLsbD i <;> cases b.getLsbD i <;> simp [CharTwo.add_self_eq_zero]

theorem bytePoly_zero : bytePoly 0 = 0 := by simp [bytePoly]

/-- A byte has eight bits, so its polynomial has degree below 8. -/
theorem degree_bytePoly_lt (b : Byte) : (bytePoly b).degree < 8 := by
  refine (degree_sum_le _ _).trans_lt ((Finset.sup_lt_iff (by decide)).2 fun i _ => ?_)
  split_ifs
  · rw [degree_X_pow]; exact_mod_cast i.isLt
  · rw [degree_zero]; exact WithBot.bot_lt_coe 8

/-- The generator polynomial is `x^8`, the implicit top term, and the byte `CRC_POLY`. -/
theorem crcPolynomial_eq : crcPolynomial = X ^ 8 + bytePoly Config.crcPoly := by
  have hpoly : bytePoly Config.crcPoly = 1 + X ^ 2 + X ^ 4 + X ^ 6 + X ^ 7 := by
    simp [bytePoly, Fin.sum_univ_eight, Config.crcPoly]
  rw [hpoly, crcPolynomial]
  ring

theorem degree_crcPolynomial : crcPolynomial.degree = 8 := by
  unfold crcPolynomial
  compute_degree!

theorem crcPolynomial_monic : crcPolynomial.Monic := by
  unfold crcPolynomial
  monicity!

/-- A shift left multiplies by `x`; the top bit it drops is the coefficient of `x^8`. -/
theorem bytePoly_shiftLeft (b : Byte) :
    bytePoly (b <<< 1) + (if b.getLsbD 7 then X ^ 8 else 0) = bytePoly b * X := by
  simp [bytePoly, Fin.sum_univ_eight, add_mul, ite_mul, pow_succ]

/-! ## The CRC modulo the generator polynomial (R84) -/

/-- One iteration of the generator is one step of the division: the polynomial is taken off when `x^8` stands. -/
theorem bytePoly_crcShift (b : Byte) :
    bytePoly (crcShift b) + (if b.getLsbD 7 then crcPolynomial else 0) = bytePoly b * X := by
  rw [← bytePoly_shiftLeft, crcShift]
  split_ifs
  · rw [bytePoly_xor, crcPolynomial_eq, add_add_add_comm, CharTwo.add_self_eq_zero, add_zero]
  · rfl

/-- One iteration of the generator multiplies by `x` modulo the generator polynomial. -/
theorem mk_bytePoly_crcShift (b : Byte) :
    AdjoinRoot.mk crcPolynomial (bytePoly (crcShift b)) = AdjoinRoot.mk crcPolynomial (bytePoly b * X) := by
  rw [← bytePoly_crcShift, map_add]
  split_ifs
  · rw [AdjoinRoot.mk_self, add_zero]
  · rw [map_zero, add_zero]

theorem mk_bytePoly_crcShifts (n : Nat) (b : Byte) :
    AdjoinRoot.mk crcPolynomial (bytePoly (crcShifts n b)) = AdjoinRoot.mk crcPolynomial (bytePoly b * X ^ n) := by
  induction n generalizing b with
  | zero => rw [pow_zero, mul_one, crcShifts]
  | succ n ih => rw [crcShifts, ih, map_mul, mk_bytePoly_crcShift, ← map_mul, mul_assoc, ← pow_succ']

/-- The running value is the message so far times `x^8`, modulo the generator polynomial, and each byte keeps it so. -/
theorem mk_bytePoly_foldl_crcUpdate (bytes : List Byte) {r : Byte} {p : (ZMod 2)[X]}
    (h : AdjoinRoot.mk crcPolynomial (bytePoly r) = AdjoinRoot.mk crcPolynomial (p * X ^ 8)) :
    AdjoinRoot.mk crcPolynomial (bytePoly (bytes.foldl crcUpdate r)) =
      AdjoinRoot.mk crcPolynomial (bytes.foldl (fun p b => p * X ^ 8 + bytePoly b) p * X ^ 8) := by
  induction bytes generalizing r p with
  | nil => exact h
  | cons b bs ih =>
    refine ih ((mk_bytePoly_crcShifts 8 (r ^^^ b)).trans ?_)
    rw [bytePoly_xor, map_mul, map_add, h, ← map_add, ← map_mul]

theorem mk_bytePoly_crc8 (bytes : List Byte) :
    AdjoinRoot.mk crcPolynomial (bytePoly (crc8 bytes)) = AdjoinRoot.mk crcPolynomial (messagePoly bytes * X ^ 8) :=
  mk_bytePoly_foldl_crcUpdate bytes (by rw [zero_mul]; exact congrArg _ bytePoly_zero)

/-- The CRC has degree below the generator polynomial's, so it is itself the remainder of what it is congruent to. -/
theorem bytePoly_crc8 (bytes : List Byte) :
    bytePoly (crc8 bytes) = (messagePoly bytes * X ^ 8) %ₘ crcPolynomial := by
  have hself : bytePoly (crc8 bytes) %ₘ crcPolynomial = bytePoly (crc8 bytes) :=
    (modByMonic_eq_self_iff crcPolynomial_monic).2 (degree_crcPolynomial ▸ degree_bytePoly_lt _)
  rw [← hself]
  exact modByMonic_eq_of_dvd_sub crcPolynomial_monic (AdjoinRoot.mk_eq_mk.1 (mk_bytePoly_crc8 bytes))

end

/-! ## The table step is the bitwise step (R84) -/

theorem crcShifts_eq_iterate (n : Nat) (b : Byte) : crcShifts n b = crcShift^[n] b := by
  induction n generalizing b with
  | zero => rfl
  | succ n ih => exact ih (crcShift b)

/-- `CRC_ROM[b] = Gen(b)`, the loop body eight times (R78). -/
theorem romRead_eq_iterate (b : Byte) : romRead b = crcShift^[8] b := crcShifts_eq_iterate 8 b

/-- On one byte the running value is 0, so the table is read at the byte itself (R84). -/
theorem crc8_singleton (b : Byte) : crc8 [b] = romRead b := congrArg romRead BitVec.zero_xor

/-- Settles O26: the table is the loop body eight times, and each time multiplies by `x` modulo the generator polynomial. -/
theorem crcIsPolynomialRemainder : Obligations.CrcIsPolynomialRemainder :=
  ⟨fun c b => romRead_eq_iterate (c ^^^ b),
    fun b => ⟨(crc8_singleton b).trans (romRead_eq_iterate b), romRead_eq_iterate b⟩, bytePoly_crc8⟩

end Sys2Proof.Machine
end

section
/-! SUPPORT. The statements of 41_mapper.md: the bounds of `scale`, the mapped vector in plain numbers, what the mapper
reads, when it takes a free value, and the ranges of the channels that every step keeps. -/

namespace Sys2Proof.Machine

/-! ## The scale function (R86, R87, R101) -/

theorem scale_left (a b lo hi : Nat) : scale a a b lo hi = lo := by
  simp [scale]

theorem scale_right {a b lo hi : Nat} (hab : a < b) (hlohi : lo ≤ hi) : scale b a b lo hi = hi := by
  rw [scale, Nat.mul_div_cancel_left _ (Nat.sub_pos_of_lt hab), Nat.add_sub_of_le hlohi]

theorem scale_mono (a b lo hi : Nat) {v v' : Nat} (h : v ≤ v') : scale v a b lo hi ≤ scale v' a b lo hi :=
  Nat.add_le_add_left (Nat.div_le_div_right (Nat.mul_le_mul_right _ (Nat.sub_le_sub_right h a))) lo

/-- Settles O24. -/
theorem scaleBoundaryAndMonotone : Obligations.ScaleBoundaryAndMonotone := fun a b lo hi hab hlohi =>
  ⟨scale_left a b lo hi, scale_right hab hlohi, fun _ _ _ h _ => scale_mono a b lo hi h⟩

/-- Settles O25: the product is bounded by the widths of its factors, the quotient by the upper end of the output. -/
theorem scaleFitsDatapath : Obligations.ScaleFitsDatapath := by
  intro v a b lo hi hb hhi hav hvb hab hlohi
  have hd : ScaleDomain v a b lo hi := ⟨hav, hvb, hab, hlohi⟩
  have hin : v - a < 2 ^ 16 := by omega
  have hout : hi - lo < 2 ^ 11 := by omega
  have hprod : (v - a) * (hi - lo) < 2 ^ 27 :=
    calc (v - a) * (hi - lo) < 2 ^ 16 * 2 ^ 11 := Nat.mul_lt_mul'' hin hout
      _ = 2 ^ 27 := by decide
  exact ⟨hin, hout, hprod, Nat.le_sub_of_add_le' (scale_le hd), Nat.le_add_right _ _, scale_le hd,
    toNat_scaleChan hd hhi⟩

/-! ## The mapped channels in plain numbers (R90 to R96) -/

theorem failsafe_toNat (i : Fin 16) : failsafe[i].toNat = if i.val = 1 ∨ i.val = 4 then 172 else 991 := by
  have h : failsafe[i] = if i.val = 1 ∨ i.val = 4 then chan Config.chMin else chan Config.chMid :=
    failsafe_getElem i i.isLt
  rw [h]
  split <;> rfl

theorem rudderChan_toNat {par : Params} {v : Reading} (h : RudderInDomain par v) (free : Chan) :
    (rudderChan par free v).toNat =
      172 + (v.toNat - par.rudderMin.toNat) * 1639 / (par.rudderMax.toNat - par.rudderMin.toNat) := by
  rw [rudderChan, if_pos h, toNat_scaleChan h (by decide)]
  rfl

/-- The split domain: each half has its own `scale` call, which is on its domain (R92). -/
theorem throttleChan_toNat (brake throttle : Reading) :
    (throttleChan brake throttle).toNat =
      if brake.toNat < 65535 then 172 + brake.toNat * 819 / 65535 else 991 + throttle.toNat * 820 / 65535 := by
  unfold throttleChan
  split
  case isTrue hbrake =>
    have hd : ScaleDomain brake.toNat 0 Config.pedalMax Config.chMin Config.chMid :=
      ⟨Nat.zero_le _, hbrake.le, by decide, by decide⟩
    rw [toNat_scaleChan hd (by decide)]
    exact (if_pos hbrake).symm
  case isFalse hbrake =>
    have hd : ScaleDomain throttle.toNat 0 Config.pedalMax Config.chMid Config.chMax :=
      ⟨Nat.zero_le _, Nat.le_of_lt_succ throttle.isLt, by decide, by decide⟩
    rw [toNat_scaleChan hd (by decide)]
    exact (if_neg hbrake).symm

theorem axisChan_toNat (v : Byte) : (axisChan v).toNat = 172 + v.toNat * 1639 / 255 := by
  rw [axisChan, toNat_scaleChan ⟨Nat.zero_le _, Nat.le_of_lt_succ v.isLt, by decide, by decide⟩ (by decide)]
  rfl

theorem armChan_toNat (button : Byte) : (armChan button).toNat = if button = 0 then 172 else 1811 := by
  by_cases h : button = 0
  · rw [armChan, if_neg (not_not.2 h), if_pos h]; rfl
  · rw [armChan, if_pos h, if_neg h]; rfl

/-- Channels 5 to 15 of the live vector keep their previous value (R96). -/
theorem live_getElem_aux (par : Params) (free : Chan) (prev : Channels) (snap : Snapshot) (i : Fin 16)
    (h : 5 ≤ i.val) : (live par free prev snap)[i] = prev[i] := by
  refine (live_getElem par free prev snap i i.isLt).trans ?_
  rw [if_neg (by omega), if_neg (by omega), if_neg (by omega), if_neg (by omega), if_neg (by omega)]
  rfl

theorem State.rudderInRange_iff (s : State) : s.RudderInRange ↔ RudderInDomain s.par s.inp.snap.rudder :=
  ⟨fun ⟨hmin, hmax, hlt⟩ => ⟨hmin, hmax, hlt, by decide⟩, fun ⟨hmin, hmax, hlt, _⟩ => ⟨hmin, hmax, hlt⟩⟩

theorem State.mapped_absent {s : State} (h : s.inp.inPresent = false) : s.mapped = failsafe := by
  rw [State.mapped, h, mapper_absent]

theorem State.mapped_present {s : State} (h : s.inp.inPresent = true) :
    s.mapped = live s.par (Config.freeChannel s.drawn) s.ch s.inp.snap := by
  rw [State.mapped, h, mapper_present]

/-- What the mapper answers, in the numbers of its rules (R89 to R96). -/
theorem State.mapped_mapsTo (s : State) : s.MapsTo s.mapped := by
  refine ⟨fun habsent => ?_, fun hpresent => ?_⟩
  · rw [State.mapped_absent habsent]
    exact failsafe_toNat
  · rw [State.mapped_present hpresent]
    refine ⟨fun hrange => ?_, ?_, ?_, ?_, ?_, fun i hi => live_getElem_aux _ _ _ _ i hi⟩
    · rw [live_getElem]; exact rudderChan_toNat (s.rudderInRange_iff.1 hrange) _
    · rw [live_getElem]; exact throttleChan_toNat _ _
    · rw [live_getElem]; exact axisChan_toNat _
    · rw [live_getElem]; exact axisChan_toNat _
    · rw [live_getElem]; exact armChan_toNat _

/-! ## MAP (R98) -/

theorem toNat_channelsResult (v : Channels) : (channelsResult v).toNat = (channelBus v).toNat :=
  BitVec.toNat_setWidth_of_le (by decide)

theorem resChan_channelsResult (v : Channels) (i : Nat) (h : i < 16) : resChan (channelsResult v) i = v[i].toNat := by
  rw [resChan, toNat_channelsResult, ← channelBus_extract v i h, BitVec.extractLsb'_toNat, Nat.shiftRight_eq_div_pow]

/-- The counter of free values is no state of the block (log 7). -/
theorem State.drawFree_pure (s : State) : s.Pure s.drawFree := by
  simp [State.Pure]

theorem State.drawFree_respond_answered (s : State) (st : Status) (r : Result) :
    s.Answered (s.drawFree.respond st r) st r := by
  simp [State.Answered]

/-- Settles O10: MAP responds with the bus of the mapped vector. -/
theorem mapAnswersMappedChannels : Obligations.MapAnswersMappedChannels := by
  intro s
  refine ⟨_, channelsResult s.mapped, s.mapped, rfl, s.drawFree_respond_answered _ _,
    s.drawFree_pure.trans (s.drawFree.respond_pure _ _), s.mapped_mapsTo,
    fun i => resChan_channelsResult _ i i.isLt, ?_⟩
  rw [toNat_channelsResult]
  exact (channelBus s.mapped).isLt

/-! ## Which commands run the mapper (R98, R114) -/

/-- MAP and a due TICK evaluate the mapper; no other command does. -/
def State.RunsMapper (s : State) (i : Instr) : Prop := i = .map ∨ (i = .tick ∧ s.Due)

/-- A command that does not run the mapper gives an answer that depends on the command alone. -/
theorem exec_of_not_runsMapper (i : Instr) :
    ∃ st r, ∀ s : State, ¬ s.RunsMapper i → exec i s = .next (s.respond st r) := by
  cases i with
  | tick => exact ⟨_, _, fun s h => execTick_notDue s fun hd => h (.inr ⟨rfl, hd⟩)⟩
  | map => exact ⟨.ok, 0, fun s h => absurd (.inl rfl) h⟩
  | scale v a b lo hi =>
    by_cases hd : ScaleDomain v.toNat a.toNat b.toNat lo.toNat hi.toNat
    · exact ⟨_, _, fun s _ => execScale_domain v a b lo hi s hd⟩
    · exact ⟨_, _, fun s _ => execScale_error v a b lo hi s hd⟩
  | nop => exact ⟨_, _, fun _ _ => rfl⟩
  | encode c => exact ⟨_, _, fun _ _ => rfl⟩
  | unpack p => exact ⟨_, _, fun _ _ => rfl⟩
  | crcLookup idx => exact ⟨_, _, fun _ _ => rfl⟩
  | crcStep crc b => exact ⟨_, _, fun _ _ => rfl⟩
  | reserved code => exact ⟨_, _, fun _ _ => rfl⟩

/-! ## What the mapper reads (R97) -/

/-- The live vector is a function of the six fields two agreeing snapshots share (R91 to R97). -/
theorem live_congr {par : Params} {a b : Snapshot} (h : a.AgreeOnRead par b) (free : Chan) (prev : Channels) :
    live par free prev a = live par free prev b := by
  obtain ⟨hrudder, hthrottle, hbrake, hroll, hpitch, harm⟩ := h
  rw [live, live, hrudder, hthrottle, hbrake, hroll, hpitch, harm]

section
variable {s : State} {snap : Snapshot} (h : s.inp.inPresent = true → s.inp.snap.AgreeOnRead s.par snap)
include h

theorem State.mapped_withSnap : (s.withSnap snap).mapped = s.mapped := by
  cases hp : s.inp.inPresent with
  | false => exact (State.mapped_absent (s := s.withSnap snap) hp).trans (State.mapped_absent hp).symm
  | true =>
    rw [State.mapped_present hp, live_congr (h hp)]
    exact State.mapped_present (s := s.withSnap snap) hp

theorem State.mapperDraws_withSnap :
    mapperDraws s.par s.inp.inPresent snap = mapperDraws s.par s.inp.inPresent s.inp.snap := by
  cases hp : s.inp.inPresent with
  | false => rfl
  | true =>
    obtain ⟨hrudder, -⟩ := h hp
    rw [mapperDraws, mapperDraws, hrudder]

theorem State.drawFree_withSnap : (s.withSnap snap).drawFree = s.drawFree.withSnap snap := by
  rw [State.drawFree, State.drawFree, apply_ite (State.withSnap · snap), ← State.mapperDraws_withSnap h]
  rfl

theorem State.mapStep_withSnap : (s.withSnap snap).mapStep = s.mapStep.withSnap snap := by
  rw [State.mapStep, State.drawFree_withSnap h, State.mapped_withSnap h]
  rfl

end

/-- The transmit handshake reads no snapshot port (R119 to R121). -/
theorem State.tryTransfer_withSnap (s : State) (u : Nat) (snap : Snapshot) :
    (s.withSnap snap).tryTransfer u = (s.tryTransfer u).withSnap snap := by
  rw [State.tryTransfer, State.tryTransfer, apply_ite (State.withSnap · snap)]
  rfl

/-- Settles O20: the mapper sees no difference, and nothing but the mapper reads the snapshot. -/
theorem unreadInputsHaveNoEffect : Obligations.UnreadInputsHaveNoEffect := by
  intro i s snap h
  by_cases hi : s.RunsMapper i
  · obtain rfl | ⟨rfl, hd⟩ := hi
    · refine ⟨_, rfl, ?_⟩
      change execMap _ = _
      rw [execMap, State.drawFree_withSnap h, State.mapped_withSnap h]
      rfl
    · refine ⟨_, execTick_due s hd, (execTick_due (s.withSnap snap) hd).trans ?_⟩
      rw [State.mapStep_withSnap h]
      exact congrArg _ (State.tryTransfer_withSnap { s.mapStep.encodeStep with phase := .emit s.sampleNow } _ snap)
  · obtain ⟨st, r, hexec⟩ := exec_of_not_runsMapper i
    exact ⟨_, hexec s hi, hexec (s.withSnap snap) hi⟩

/-! ## The counter of free values (R91, U3, log 7) -/

theorem State.mapperDraws_iff (s : State) :
    mapperDraws s.par s.inp.inPresent s.inp.snap = true ↔ s.inp.inPresent = true ∧ ¬ s.RudderInRange := by
  rw [s.rudderInRange_iff, mapperDraws, Bool.and_eq_true, Bool.not_eq_true', decide_eq_false_iff_not]

theorem State.drawFree_drawsFree (s : State) : s.DrawsFree s.drawFree := by
  rw [State.DrawsFree, State.drawFree_drawn]
  exact if_congr s.mapperDraws_iff rfl rfl

@[simp] theorem State.tryTransfer_drawn (s : State) (u : Nat) : (s.tryTransfer u).drawn = s.drawn := by
  unfold State.tryTransfer
  split <;> rfl

/-- Settles O21: the counter moves with the mapper, and a command that does not run the mapper only responds. -/
theorem onlyUnspecifiedRudderTakesFreeValue : Obligations.OnlyUnspecifiedRudderTakesFreeValue := by
  intro i s
  by_cases hi : s.RunsMapper i
  · obtain rfl | ⟨rfl, hd⟩ := hi
    · exact ⟨_, rfl, fun _ => s.drawFree_drawsFree, absurd (.inl rfl)⟩
    · have hdrawn : (s.mapStep.encodeStep.emitFrame s.sampleNow).drawn = s.drawFree.drawn :=
        State.tryTransfer_drawn _ _
      exact ⟨_, execTick_due s hd, fun _ => hdrawn.trans s.drawFree_drawsFree, absurd (.inr ⟨rfl, hd⟩)⟩
  · obtain ⟨st, r, hexec⟩ := exec_of_not_runsMapper i
    exact ⟨_, hexec s hi, fun h => absurd h hi, fun _ => rfl⟩

/-! ## The channels a step leaves (R89, R96, R100, R117, R144) -/

@[simp] theorem State.tryTransfer_ch (s : State) (u : Nat) : (s.tryTransfer u).ch = s.ch := by
  unfold State.tryTransfer
  split <;> rfl

/-- Only step (a) of a due TICK writes the channels, and it writes the mapped vector (R117, R127). -/
theorem exec_ch {i : Instr} {s t : State} (h : exec i s = .next t) : t.ch = s.ch ∨ t.ch = s.mapped := by
  obtain ⟨st, r, rfl⟩ | ⟨-, rfl⟩ | ⟨-, -, rfl⟩ := exec_cases i s t h
  · exact .inl rfl
  · exact .inl s.drawFree_ch
  · exact .inr (State.tryTransfer_ch _ _)

/-- After a step the channels are those before it, the reset channels, or the mapped vector. -/
theorem step_ch {s t : State} (h : step s = .next t) : t.ch = s.ch ∨ t.ch = resetChannels ∨ t.ch = s.mapped := by
  obtain ⟨-, rfl⟩ | ⟨u, -, -, rfl⟩ | ⟨-, -, -, rfl⟩ | ⟨i, u, -, -, -, hx, rfl⟩ := step_cases s t h
  · exact .inr (.inl (by simp))
  · exact .inl (by simp)
  · exact .inl (by simp)
  · rw [State.hostMoves_ch]
    exact (exec_ch hx).imp_right .inr

/-- The failsafe vector is centred, and the live vector keeps channels 5 to 15 (R90, R96). -/
theorem State.mapped_auxCentred {s : State} (h : s.AuxOk) : AuxCentred s.mapped := by
  cases hp : s.inp.inPresent with
  | false =>
    rw [State.mapped_absent hp]
    exact failsafe_safe.2
  | true =>
    rw [State.mapped_present hp]
    exact fun i hi => (live_getElem_aux _ _ _ _ i hi).trans (h i hi)

/-- Settles O48, for each vector a step can leave. -/
theorem stepKeepsAuxCentred : Obligations.StepKeepsAuxCentred := by
  intro s t hs h
  unfold State.AuxOk
  obtain hch | hch | hch := step_ch h <;> rw [hch]
  · exact hs
  · exact resetChannels_safe.2
  · exact State.mapped_auxCentred hs

/-- Settles O49, for each vector a step can leave; the parameters stay. -/
theorem stepKeepsChannelRange : Obligations.StepKeepsChannelRange := by
  intro s t hs h
  obtain ⟨hpar, hsafe⟩ := hs
  refine ⟨parametersNeverChange s t h ▸ hpar, ?_⟩
  obtain hch | hch | hch := step_ch h <;> rw [hch]
  · exact hsafe
  · exact resetChannels_safe
  · exact State.mapped_safe ⟨hpar, hsafe⟩

end Sys2Proof.Machine
end

section
/-! SUPPORT. The statements of 42_encoder.md: unpacking undoes the encoder, and which changes of a frame its CRC detects. -/

namespace Sys2Proof.Machine

/-! ## Unpacking an encoded frame (R108, R110) -/

/-- Frame bytes 3 to 24 are the payload (R73, R103). -/
theorem framePayload_encodeFrame (v : Channels) : framePayload (encodeFrame v) = payloadOf v := by
  refine Vector.ext fun k hk => ?_
  rw [framePayload, Vector.getElem_ofFn]
  exact encodeFrame_payload v k hk

/-- Bytes and channels divide the same 176-bit bus (R102, R108). -/
theorem unpack_payloadOf (v : Channels) : unpack (payloadOf v) = v := by
  rw [unpack, payloadOf, payloadBus_busPayload, busChannels_channelBus]

/-- Settles O30. -/
theorem unpackOfEncodedFrame : Obligations.UnpackOfEncodedFrame := fun v =>
  (congrArg unpack (framePayload_encodeFrame v)).trans (unpack_payloadOf v)

/-! ## The CRC tells apart two sequences that differ in one byte (R112) -/

/-- Only the table's entry at 0 is 0 (R85). -/
theorem eq_zero_of_romRead_eq_zero (b : Byte) : romRead b = 0 → b = 0 := by
  decide +kernel +revert

/-- The table holds every byte once: it is linear, and its kernel is 0 (R85). -/
theorem romRead_injective : Function.Injective romRead := by
  intro a b h
  have hzero : romRead (a ^^^ b) = 0 := by rw [romRead_xor, h, BitVec.xor_self]; rfl
  exact BitVec.xor_eq_zero_iff.1 (eq_zero_of_romRead_eq_zero _ hzero)

theorem crcUpdate_left_injective (b : Byte) : Function.Injective (crcUpdate · b) := fun _ _ h =>
  (BitVec.xor_left_inj b).1 (romRead_injective h)

theorem crcUpdate_right_injective (c : Byte) : Function.Injective (crcUpdate c) := fun _ _ h =>
  (BitVec.xor_right_inj c).1 (romRead_injective h)

/-- Two running values that differ still differ after the same bytes. -/
theorem foldl_crcUpdate_injective (bytes : List Byte) : Function.Injective (bytes.foldl crcUpdate) := by
  induction bytes with
  | nil => exact Function.injective_id
  | cons b bs ih => exact ih.comp (crcUpdate_left_injective b)

/-- The running value is the same up to the changed byte, differs there, and no later byte makes it the same again. -/
theorem foldl_crcUpdate_set_ne (bytes : List Byte) (r x : Byte) (i : Nat) (h : i < bytes.length) (hx : x ≠ bytes[i]) :
    (bytes.set i x).foldl crcUpdate r ≠ bytes.foldl crcUpdate r := by
  induction bytes generalizing r i with
  | nil => exact absurd h (Nat.not_lt_zero i)
  | cons b bs ih =>
    cases i with
    | zero => exact fun heq => hx (crcUpdate_right_injective r (foldl_crcUpdate_injective bs heq))
    | succ i => exact ih (crcUpdate r b) i (Nat.lt_of_succ_lt_succ h) hx

/-! ## Changes of an encoded frame (R105, R112) -/

/-- The CRC over frame bytes 2 to 24 is frame byte 25 (R105). -/
theorem crc8_encodeFrame_covered (v : Channels) :
    crc8 (((encodeFrame v).toList.drop 2).take 23) = (encodeFrame v)[25] :=
  (congrArg crc8 (encodeFrame_covered v)).trans (encodeFrame_crc v).symm

/-- Setting frame byte `k` of 2 to 24 sets byte `k - 2` of those the CRC covers (R105). -/
theorem frame_set_covered (f : Frame) (k : Nat) (x : Byte) (hk : k < 26) (h2 : 2 ≤ k) :
    ((f.set k x).toList.drop 2).take 23 = ((f.toList.drop 2).take 23).set (k - 2) x := by
  rw [Vector.toList_set, List.drop_set, if_neg (by omega), List.take_set]

/-- A change of one of frame bytes 2 to 24 changes the CRC over them (R105). -/
theorem crc8_frame_set_ne (f : Frame) (k : Nat) (x : Byte) (hk : k < 25) (h2 : 2 ≤ k) (hx : x ≠ f[k]) :
    crc8 (((f.set k x).toList.drop 2).take 23) ≠ crc8 ((f.toList.drop 2).take 23) := by
  have hlen : k - 2 < ((f.toList.drop 2).take 23).length := by
    rw [List.length_take, List.length_drop, Vector.length_toList]
    omega
  have hbyte : ((f.toList.drop 2).take 23)[k - 2] = f[k] := by simp [Nat.add_sub_cancel' h2]
  rw [frame_set_covered f k x (by omega) h2]
  exact foldl_crcUpdate_set_ne _ Config.crcInit x _ hlen (hbyte ▸ hx)

/-- Settles O28: a covered byte is one of the CRC's bytes, and bytes 0 and 1 are none of them. -/
theorem frameCrcDetectsOneByteChange : Obligations.FrameCrcDetectsOneByteChange := by
  intro v
  rw [← crc8_encodeFrame_covered]
  refine ⟨fun k x h2 h24 hx => crc8_frame_set_ne _ k x (Nat.lt_succ_of_le h24) h2 hx, fun x y => ?_⟩
  rw [frame_set_header_drop]

end Sys2Proof.Machine
end

section
/-! SUPPORT. The statements of 43_pacer.md: a TICK that is not due, one that emits at once, one that holds and is later
transferred or never is, and the pace of the frames sent. -/

namespace Sys2Proof.Machine

/-! ## The host's move along its list of port values (log 1) -/

theorem State.hostMoves_moments_sublist (s : State) : s.hostMoves.moments.Sublist s.moments := by
  rw [State.moments, State.moments, State.hostMoves_eq]
  cases s.upcoming with
  | nil => exact List.Sublist.refl _
  | cons p ps => exact List.sublist_cons_self _ _

/-- A clock that never goes back is not earlier after the host's move (R149). -/
theorem State.now_le_hostMoves_now {s : State} (h : s.moments.Pairwise fun earlier later => earlier.now ≤ later.now) :
    s.inp.now ≤ s.hostMoves.inp.now := by
  rw [State.moments] at h
  rw [State.hostMoves_eq]
  cases hup : s.upcoming with
  | nil => exact le_rfl
  | cons p ps =>
    rw [hup] at h
    exact List.rel_of_pairwise_cons h List.mem_cons_self

theorem State.hostMoves_paced (s : State) : s.hostMoves.Paced ↔ s.Paced := by
  simp [State.Paced]

theorem State.ClockDuty.hostMoves {s : State} (h : s.ClockDuty) : s.hostMoves.ClockDuty := by
  obtain ⟨hports, hmono, hheld⟩ := h
  refine ⟨fun p hp => ?_, hmono.sublist s.hostMoves_moments_sublist, fun u hu => ?_⟩
  · simpa using hports p (s.hostMoves_moments_sublist.subset hp)
  · obtain ⟨hdue, hnow⟩ := hheld u (by simpa using hu)
    exact ⟨by simpa using hdue, hnow.trans (State.now_le_hostMoves_now hmono)⟩

/-! ## The clock under the host's duties (R149, R152) -/

section
variable {s : State} (h : s.ClockDuty)
include h

theorem State.ClockDuty.rst : s.inp.rst = false := (h.1 s.inp List.mem_cons_self).1

theorem State.ClockDuty.now_lt : s.inp.now + Config.interval < 2 ^ s.par.timeW := (h.1 s.inp List.mem_cons_self).2

theorem State.ClockDuty.sampleNow : s.sampleNow = s.inp.now :=
  Nat.mod_eq_of_lt (Nat.lt_of_add_right_lt h.now_lt)

theorem State.ClockDuty.accept : s.accept.ClockDuty := by
  simpa [State.ClockDuty, State.moments] using h

theorem State.ClockDuty.held {u : Nat} (hu : s.phase = .emit u) : s.nextTime ≤ u ∧ u ≤ s.inp.now := h.2.2 u hu

/-- A transfer touches no port, and leaves no TICK held (R119). -/
theorem State.ClockDuty.tryTransfer (u : Nat) : (s.tryTransfer u).ClockDuty := by
  obtain ⟨hports, hmono, hheld⟩ := h
  cases hr : s.inp.txReady with
  | true =>
    rw [s.tryTransfer_ready u hr]
    exact ⟨hports, hmono, fun _ hidle => Phase.noConfusion hidle⟩
  | false =>
    rw [s.tryTransfer_waits u hr]
    exact ⟨hports, hmono, hheld⟩

end

/-- The reschedule reads one of two clock samples (R120, R154). -/
theorem State.reschedTime_cases (s : State) (u : Nat) : s.reschedTime u = u ∨ s.reschedTime u = s.sampleNow := by
  unfold State.reschedTime
  split
  · exact .inl rfl
  · exact .inr rfl

/-! ## The pace of the frames sent (R123) -/

section
variable {s : State} {u : Nat} (h : s.ClockDuty) (hu : s.phase = .emit u)
include h hu

/-- With no wrap, `next_time` is one interval or more after the sample of the TICK, whichever sample R120 reads. -/
theorem State.ClockDuty.interval_le_transfer_nextTime : u + Config.interval ≤ (s.transfer u).nextTime := by
  obtain ⟨-, hnow⟩ := h.held hu
  have hlt := h.now_lt
  rw [State.transfer_nextTime]
  obtain ht | ht := s.reschedTime_cases u
  · rw [ht, Nat.mod_eq_of_lt (by omega)]
  · rw [ht, h.sampleNow, Nat.mod_eq_of_lt hlt]
    omega

/-- The frames sent before were checked one interval before `next_time`, and a held TICK was due (R114). -/
theorem State.Paced.tryTransfer (hp : s.Paced) : (s.tryTransfer u).Paced := by
  obtain ⟨hpair, hsent⟩ := hp
  obtain ⟨hdue, -⟩ := h.held hu
  cases hr : s.inp.txReady with
  | true =>
    rw [s.tryTransfer_ready u hr]
    have hold : ∀ x ∈ s.sent, x.t + Config.interval ≤ u := fun x hx => (hsent x hx).trans hdue
    have hnew := h.interval_le_transfer_nextTime hu
    exact ⟨List.pairwise_cons.2 ⟨hold, hpair⟩,
      List.forall_mem_cons.2 ⟨hnew, fun x hx => (hold x hx).trans (Nat.le_of_add_right_le hnew)⟩⟩
  | false =>
    rw [s.tryTransfer_waits u hr]
    exact ⟨hpair, hsent⟩

end

/-- Only a due TICK presents a frame, and it takes its sample from the clock as it stands (R114). -/
theorem exec_paced {i : Instr} {s t : State} (hp : s.Paced) (hc : s.ClockDuty) (h : exec i s = .next t) :
    t.Paced ∧ t.ClockDuty := by
  obtain ⟨st, r, rfl⟩ | ⟨-, rfl⟩ | ⟨-, hdue, rfl⟩ := exec_cases i s t h
  · exact ⟨hp, hc⟩
  · exact ⟨by simpa [State.Paced] using hp, by simpa [State.ClockDuty, State.moments] using hc⟩
  · have hpaced : ({ s.mapStep.encodeStep with phase := .emit s.sampleNow } : State).Paced := by
      simpa [State.Paced] using hp
    have hsample : s.sampleNow = s.inp.now := hc.sampleNow
    have hduty : ({ s.mapStep.encodeStep with phase := .emit s.sampleNow } : State).ClockDuty := by
      obtain ⟨hports, hmono, -⟩ := hc
      refine ⟨by simpa [State.moments] using hports, by simpa [State.moments] using hmono, fun u hu => ?_⟩
      obtain rfl : s.sampleNow = u := Phase.emit.inj hu
      simpa using ⟨hdue, hsample.le⟩
    exact ⟨hpaced.tryTransfer hduty rfl, hduty.tryTransfer _⟩

/-- Settles O51, by the four things a step can do; the host's duties exclude the reset. -/
theorem stepKeepsPace : Obligations.StepKeepsPace := by
  intro s t hp hc h
  obtain ⟨hrst, -⟩ | ⟨u, -, hu, rfl⟩ | ⟨-, -, -, rfl⟩ | ⟨i, u, -, -, -, hx, rfl⟩ := step_cases s t h
  · exact absurd hrst (by simp [hc.rst])
  · have hpaced : s.clearRsp.Paced := hp
    have hduty : s.clearRsp.ClockDuty := hc
    exact ⟨(State.hostMoves_paced _).2 (hpaced.tryTransfer hduty hu), (hduty.tryTransfer u).hostMoves⟩
  · exact ⟨s.clearRsp.hostMoves_paced.2 hp, State.ClockDuty.hostMoves (s := s.clearRsp) hc⟩
  · obtain ⟨hpaced, hduty⟩ := exec_paced (s := s.accept) hp hc.accept hx
    exact ⟨u.hostMoves_paced.2 hpaced, hduty.hostMoves⟩

/-! ## A due TICK (R114, R116 to R120) -/

theorem State.mapStep_encodeStep_sampleNow (s : State) : s.mapStep.encodeStep.sampleNow = s.sampleNow := by
  simp [State.sampleNow]

/-- Steps (a) and (b) leave a mapped vector and its frame (R117, R118). -/
theorem State.mapStep_encodeStep_frameOf (s : State) :
    s.MapsTo s.mapStep.encodeStep.ch ∧ FrameOf s.mapStep.encodeStep.ch s.mapStep.encodeStep.fb := by
  simpa using ⟨s.mapped_mapsTo, encodeFrameMeetsFormat s.mapped⟩

/-- When the transport accepts in the moment of the sample, both samples of R120 agree (log 1). -/
theorem State.reschedTime_sampleNow (s : State) : s.reschedTime s.sampleNow = s.sampleNow :=
  (s.reschedTime_cases s.sampleNow).elim id id

section
variable {s : State} (hdue : s.Due)
include hdue

theorem exec_tick_ready (hr : s.inp.txReady = true) :
    exec .tick s = .next (s.mapStep.encodeStep.transfer s.sampleNow) := by
  rw [← State.emitFrame_ready _ _ (by simpa using hr)]
  exact execTick_due s hdue

theorem exec_tick_waits (hw : s.inp.txReady = false) :
    exec .tick s = .next { s.mapStep.encodeStep with phase := .emit s.sampleNow } := by
  rw [← State.emitFrame_waits _ _ (by simpa using hw)]
  exact execTick_due s hdue

end

/-- The reschedule of a TICK that emits at once is relative to its own sample (R120). -/
theorem State.emitTick_nextTime (s : State) :
    (s.mapStep.encodeStep.transfer s.sampleNow).nextTime = (s.sampleNow + Config.interval) % 2 ^ s.par.timeW := by
  rw [State.transfer_nextTime, ← s.mapStep_encodeStep_sampleNow, State.reschedTime_sampleNow]
  simp

/-- Settles O16: steps (a) and (b), then the transfer. -/
theorem tickDueEmitsFrame : Obligations.TickDueEmitsFrame := by
  intro s hdue hr
  obtain ⟨hmaps, hframe⟩ := s.mapStep_encodeStep_frameOf
  refine ⟨_, exec_tick_ready hdue hr, hmaps, hframe, ?_, s.emitTick_nextTime, rfl, ⟨rfl, ?_, rfl⟩, ?_⟩
  · simp [State.sampleNow]
  · simp [emittedResult]
  · simp [State.SameEnv]

/-- Settles O17: steps (a) and (b), then the hold in EMIT. -/
theorem tickDueHoldsWithoutTransport : Obligations.TickDueHoldsWithoutTransport := by
  intro s hdue hw
  obtain ⟨hmaps, hframe⟩ := s.mapStep_encodeStep_frameOf
  exact ⟨_, exec_tick_waits hdue hw, hmaps, hframe, rfl, by simp [State.SameEnv]⟩

/-- Settles O43: the sum overshoots `2 ^ TIME_W` by less than one interval, and no TICK changes the clock. -/
theorem rescheduleWrapsToDueAtOnce : Obligations.RescheduleWrapsToDueAtOnce := by
  intro s hlegal hdue hr hwrap
  obtain ⟨t, hexec, -, -, -, hnext, -, -, hinp, -, hpar⟩ := tickDueEmitsFrame s hdue hr
  have hwide : 2 ^ 32 ≤ 2 ^ s.par.timeW := Nat.pow_le_pow_right (by decide) hlegal.1
  have hsample : s.inp.now % 2 ^ s.par.timeW < 2 ^ s.par.timeW := s.sampleNow_lt
  rw [Nat.mod_eq_sub_mod hwrap, Nat.mod_eq_of_lt (by omega)] at hnext
  refine ⟨t, hexec, hnext, by omega, ?_⟩
  rw [State.Due, State.sampleNow, hinp, hpar]
  omega

/-- A step that accepts a due TICK for a ready transport is that TICK on the accepted state (R60, R114). -/
theorem step_tick_emits {s : State} (hrst : s.inp.rst = false) (hidle : s.phase = .idle) (hbusy : s.busy = false)
    (hv : s.inp.cmdValid = true) (hcmd : s.inp.cmd = 0x1) (hr : s.inp.txReady = true) (hdue : s.Due) :
    ∃ t f, step s = .next t ∧ t.sent = ⟨s.sampleNow, f⟩ :: s.sent ∧
      t.nextTime = (s.sampleNow + Config.interval) % 2 ^ s.par.timeW ∧ t.rsp = some ⟨.ok, 1⟩ := by
  have hacc : s.accepted = some .tick := by
    rw [State.accepted_of_ready hrst hbusy hv, hcmd, decode_tick]
  obtain ⟨t, hexec, -, -, hsent, hnext, -, ⟨hrsp, -, -⟩, -⟩ := tickDueEmitsFrame s.accept hdue hr
  refine ⟨t.hostMoves, t.fb, ?_, t.hostMoves_sent.trans hsent, t.hostMoves_nextTime.trans hnext,
    t.hostMoves_rsp.trans hrsp⟩
  rw [step_accepts s .tick hrst hidle hacc, hexec, afterCommand]

/-- Settles O18: with `next_time = 0`, as in the reset state, every sample is due. -/
theorem firstTickAlwaysEmits : Obligations.FirstTickAlwaysEmits := by
  refine ⟨fun s hzero hr => ?_, fun p hrst hv hcmd hr => ?_⟩
  · obtain ⟨t, hexec, -, -, hsent, -⟩ := tickDueEmitsFrame s (hzero ▸ Nat.zero_le _) hr
    exact ⟨t, _, hexec, hsent⟩
  · obtain ⟨t, f, hstep, hsent, hnext, hrsp⟩ :=
      step_tick_emits (s := { State.reset with inp := p }) hrst rfl rfl hv hcmd hr (Nat.zero_le _)
    exact ⟨t, _, hstep, hsent, rfl, hnext, hrsp⟩

/-! ## A TICK that is not due (R115) -/

/-- Settles O15: the comparison reads only the clock, and the answer reads nothing. -/
theorem tickNotDueDoesNothing : Obligations.TickNotDueDoesNothing := by
  intro s hearly
  have hnot : ¬ s.Due := Nat.not_le.2 hearly
  refine ⟨_, execTick_notDue s hnot, s.respond_answered _ _, s.respond_pure _ _, fun p hnow => ?_⟩
  have hnot' : ¬ ({ s with inp := p } : State).Due := by
    rwa [State.Due, State.sampleNow, hnow]
  exact execTick_notDue _ hnot'

/-! ## A held TICK (R119, R151) -/

/-- Settles O36: the held TICK's attempt is the transfer. -/
theorem heldTickTransfers : Obligations.HeldTickTransfers := by
  intro s u hrst hu hr
  refine ⟨(s.clearRsp.transfer u).hostMoves, ?_, by simp, by simp, by simp, by simp, ?_, ?_⟩
  · rw [step_emit s u hrst hu, s.clearRsp.tryTransfer_ready u hr]
  · simp [State.Answered, emittedResult]
  · rw [State.hostMoves_nextTime, State.transfer_nextTime, State.reschedTime]
    cases hres : s.par.resched <;> simp [hres, State.sampleNow, Config.interval]

theorem State.TransportDead.inp {s : State} (h : s.TransportDead) : s.inp.rst = false ∧ s.inp.txReady = false :=
  h s.inp List.mem_cons_self

theorem State.TransportDead.hostMoves {s : State} (h : s.TransportDead) : s.hostMoves.TransportDead := fun p hp =>
  h p (s.hostMoves_moments_sublist.subset hp)

/-- Settles O39, by induction on the number of steps: each is a silent moment, after which the transport is still dead. -/
theorem deadTransportNeverCompletes : Obligations.DeadTransportNeverCompletes := by
  intro n
  induction n with
  | zero =>
    intro s u hu hb hdead
    exact ⟨s, run_zero s, hu, rfl, rfl, rfl, rfl, by simp [State.cmdReady, hb], s.txValid_iff.2 ⟨hdead.inp.1, u, hu⟩⟩
  | succ n ih =>
    intro s u hu hb hdead
    obtain ⟨hrst, hw⟩ := hdead.inp
    have hstep : step s = .next s.clearRsp.hostMoves := by
      rw [step_emit s u hrst hu, s.clearRsp.tryTransfer_waits u hw]
    have hdead' : s.clearRsp.hostMoves.TransportDead := State.TransportDead.hostMoves (s := s.clearRsp) hdead
    obtain ⟨t, hrun, hheld⟩ := ih s.clearRsp.hostMoves u (by simpa using hu) (by simpa using hb) hdead'
    exact ⟨t, (run_succ n s _ hstep).trans hrun, by simpa using hheld⟩

end Sys2Proof.Machine
end

section
/-! SUPPORT. The statements of 44_system.md: NOP and the reserved codes, and that only TICK and reset write state. -/

namespace Sys2Proof.Machine

/-! ## NOP and the reserved codes (R125, R126) -/

/-- Settles O6: NOP only responds, and its answer is fixed. -/
theorem nopRespondsZero : Obligations.NopRespondsZero := fun s o =>
  ⟨decode_nop o, _, rfl, s.respond_answered _ _, s.respond_pure _ _, fun _ => rfl⟩

/-- Settles O7: each of these codes decodes to a reserved command, whose error is a bare response. -/
theorem reservedCodeAnswersIllegal : Obligations.ReservedCodeAnswersIllegal := by
  intro s cmd o hreserved
  rw [decode_reserved cmd o hreserved]
  exact ⟨_, rfl, s.respond_answered _ _, s.respond_pure _ _⟩

/-! ## Only TICK and reset write state (R127) -/

/-- Settles O19: MAP looks at the mapper and responds, and the commands that do not run the mapper only respond. -/
theorem commandsOtherThanTickArePure : Obligations.CommandsOtherThanTickArePure := by
  intro i s htick
  by_cases hmap : i = .map
  · subst hmap
    exact ⟨_, _, _, rfl, s.drawFree_respond_answered _ _, s.drawFree_pure.trans (s.drawFree.respond_pure _ _)⟩
  · have hquiet : ¬ s.RunsMapper i := not_or.2 ⟨hmap, fun h => htick h.1⟩
    obtain ⟨st, r, hexec⟩ := exec_of_not_runsMapper i
    exact ⟨_, _, _, hexec s hquiet, s.respond_answered st r, s.respond_pure st r⟩

theorem exec_pure_of_ne_tick {i : Instr} {s t : State} (hi : i ≠ .tick) (h : exec i s = .next t) : s.Pure t := by
  obtain ⟨u, _, _, hu, -, hpure⟩ := commandsOtherThanTickArePure i s hi
  cases hu.symm.trans h
  exact hpure

/-- Settles O41: from IDLE without reset a step is an idle moment or one command, here a pure one. -/
theorem onlyTickAndResetWriteState : Obligations.OnlyTickAndResetWriteState := by
  intro s t h hrst hidle htick
  obtain ⟨hr, -⟩ | ⟨u, -, hemit, -⟩ | ⟨-, -, -, rfl⟩ | ⟨i, u, -, -, ha, hx, rfl⟩ := step_cases s t h
  · exact absurd hr (by simp [hrst])
  · exact Phase.noConfusion (hidle.symm.trans hemit)
  · simp
  · have hi : i ≠ .tick := fun hi => htick (hi ▸ ha)
    obtain ⟨hch, hfb, hnext, hphase, -, -, -, hsent⟩ : s.accept.Pure u := exec_pure_of_ne_tick hi hx
    simp [hch, hfb, hnext, hphase, hsent]

end Sys2Proof.Machine
end

section
/-! SUPPORT. The statements of 60_exceptions.md: which commands raise an error, that an error is precise, and that the
block never stops. -/

namespace Sys2Proof.Machine

/-! ## The error of a command (R131, R132) -/

/-- The error a command answers in every state, if it answers one: reserved codes ILLEGAL_CMD (R131), SCALE outside its
domain DOMAIN (R132). -/
def errorOf : Instr → Option Status
  | .reserved _ => some .illegalCmd
  | .scale v a b lo hi => if ScaleDomain v.toNat a.toNat b.toNat lo.toNat hi.toNat then none else some .domain
  | _ => none

theorem errorOf_illegalCmd (i : Instr) : errorOf i = some .illegalCmd ↔ ∃ code, i = .reserved code := by
  cases i <;> simp [errorOf]

theorem errorOf_domain (i : Instr) :
    errorOf i = some .domain ↔ ∃ v a b lo hi, i = .scale v a b lo hi ∧
      ¬ ScaleDomain v.toNat a.toNat b.toNat lo.toNat hi.toNat := by
  cases i <;> simp [errorOf]

/-- A command with an error raises it and does nothing else (R130). -/
theorem exec_of_errorOf {i : Instr} {e : Status} (h : errorOf i = some e) (s : State) :
    exec i s = .next (s.raiseError e) := by
  cases i with
  | reserved code =>
    cases h
    rfl
  | scale v a b lo hi =>
    by_cases hd : ScaleDomain v.toNat a.toNat b.toNat lo.toNat hi.toNat
    · simp [errorOf, hd] at h
    · obtain rfl : .domain = e := by simpa [errorOf, hd] using h
      exact execScale_error v a b lo hi s hd
  | _ => cases h

/-- A TICK that answers at all answers OK (R115, R121). -/
theorem exec_tick_status_ok {s t : State} {r : Response} (hs : s.rsp = none) (h : exec .tick s = .next t)
    (hr : t.rsp = some r) : r.status = .ok := by
  by_cases hd : s.Due
  · cases hready : s.inp.txReady with
    | true =>
      cases (exec_tick_ready hd hready).symm.trans h
      cases hr
      rfl
    | false =>
      have hsilent : t.rsp = none := (execTick_holds hd hready h).1.trans hs
      cases hsilent.symm.trans hr
  · cases (execTick_notDue s hd).symm.trans h
    cases hr
    rfl

/-- A command without an error, if it answers, answers OK. -/
theorem exec_status_ok_of_errorOf_none {i : Instr} {s t : State} {r : Response} (herr : errorOf i = none)
    (hs : s.rsp = none) (h : exec i s = .next t) (hr : t.rsp = some r) : r.status = .ok := by
  cases i with
  | tick => exact exec_tick_status_ok hs h hr
  | reserved code => cases herr
  | scale v a b lo hi =>
    have hd : ScaleDomain v.toNat a.toNat b.toNat lo.toNat hi.toNat := by simpa [errorOf] using herr
    cases (execScale_domain v a b lo hi s hd).symm.trans h
    cases hr
    rfl
  | _ =>
    cases h
    cases hr
    rfl

/-- An answer other than OK is the command's own error, raised (R130). -/
theorem exec_error_cases {i : Instr} {s t : State} {r : Response} (hs : s.rsp = none) (h : exec i s = .next t)
    (hr : t.rsp = some r) (hne : r.status ≠ .ok) :
    ∃ e, errorOf i = some e ∧ t = s.raiseError e ∧ r = ⟨e, zeroResult⟩ := by
  cases herr : errorOf i with
  | none => exact absurd (exec_status_ok_of_errorOf_none herr hs h hr) hne
  | some e =>
    cases (exec_of_errorOf herr s).symm.trans h
    exact ⟨e, rfl, rfl, (Option.some.inj hr).symm⟩

/-- A status other than OK is answered exactly by the commands whose error it is. -/
theorem exec_answers_error_iff {i : Instr} {s t : State} {e : Status} (hne : e ≠ .ok) (hs : s.rsp = none)
    (h : exec i s = .next t) : (∃ res, t.rsp = some ⟨e, res⟩) ↔ errorOf i = some e := by
  constructor
  · rintro ⟨res, hr⟩
    obtain ⟨e', herr, -, he⟩ := exec_error_cases hs h hr hne
    cases he
    exact herr
  · intro herr
    cases (exec_of_errorOf herr s).symm.trans h
    exact ⟨_, rfl⟩

/-! ## The errors (R130 to R132) -/

/-- Settles O22: each of the two errors is answered exactly by the commands that have it. -/
theorem errorsRaisedOnlyWhereNamed : Obligations.ErrorsRaisedOnlyWhereNamed := fun i _ _ hs h =>
  ⟨(exec_answers_error_iff (by decide) hs h).trans (errorOf_illegalCmd i),
    (exec_answers_error_iff (by decide) hs h).trans (errorOf_domain i)⟩

/-- Settles O23: an error answer is a raised error, which writes the response and `busy` alone. -/
theorem errorResponsesArePrecise : Obligations.ErrorResponsesArePrecise := by
  intro i s t r hs h hr hne
  obtain ⟨e, -, rfl, rfl⟩ := exec_error_cases hs h hr hne
  exact ⟨rfl, rfl⟩

/-! ## The block never stops (R129, R136, R157) -/

/-- Every command has a next state: it only responds, or it runs the mapper. -/
theorem exec_next (i : Instr) (s : State) : ∃ t, exec i s = .next t := by
  by_cases hi : s.RunsMapper i
  · obtain rfl | ⟨rfl, hd⟩ := hi
    · exact ⟨_, rfl⟩
    · exact ⟨_, execTick_due s hd⟩
  · obtain ⟨st, r, hexec⟩ := exec_of_not_runsMapper i
    exact ⟨_, hexec s hi⟩

/-- Settles O38, by the four things a step can do; the fourth, a command, is `exec_next`. -/
theorem stepNeverStops : Obligations.StepNeverStops := by
  intro s
  cases hrst : s.inp.rst with
  | true => exact ⟨_, step_rst s hrst⟩
  | false =>
    cases hphase : s.phase with
    | emit u => exact ⟨_, step_emit s u hrst hphase⟩
    | idle =>
      cases hacc : s.accepted with
      | none => exact ⟨_, step_idle s hrst hphase hacc⟩
      | some i =>
        obtain ⟨t, ht⟩ := exec_next i s.accept
        exact ⟨t.hostMoves, by rw [step_accepts s i hrst hphase hacc, ht]; rfl⟩

end Sys2Proof.Machine
end
